-- ==== Sys2Proof/Word.lean ====
section
/-! DEFINITION. The bit-vector types of the block: the 64-bit operation word, the 32-bit register word, the 6-bit word
index, the 16-bit elements and the bytes of a telemetry line. -/

namespace Sys2Proof

/-- One operation word (30_encoding.md R65). -/
abbrev OpWord := BitVec 64

/-- The operation code, bits [3:0] of an operation word (R65, R66). -/
abbrev Opcode := BitVec 4

/-- A word index into the register space (20_memory.md R50, 30_encoding.md R67). -/
abbrev RegIndex := BitVec 6

/-- One word of the register space (20_memory.md R50, R52). -/
abbrev RegWord := BitVec 32

/-- A 16-bit element: a timestamp, a sample, a target or a duty (10_state.md R21). -/
abbrev Half := BitVec 16

/-- One byte of a telemetry status line (44_telemetry.md R153). -/
abbrev Byte := BitVec 8

end Sys2Proof
end

