-- ==== Sys2Proof/Syntax.lean ====
section
/-! DEFINITION. The operations of the block, one constructor for each row of spec/opcode_table.json (30_encoding.md R66),
and the agents that present them (00_scope.md R14). -/

namespace Sys2Proof

/-- The storage collaborator's answer to one telemetry sequence (30_encoding.md R69). -/
inductive StorageAnswer where
  | ok
  | openFail
  | writeFail
  | closeFail
deriving DecidableEq, Repr

/-- One operation with its operands (30_encoding.md R66, R75). -/
inductive Instr where
  /-- IDLE (R170) -/
  | idle
  /-- CT_CMP (R81) -/
  | ctCmp
  /-- CT_OVF (R82) -/
  | ctOvf
  /-- CAP_DONE with the rising-edge and the falling-edge timestamp (R70, R84) -/
  | capDone (rise fall : Half)
  /-- POLL (R88) -/
  | poll
  /-- BT_OVF with the storage answer (R69, R116) -/
  | btOvf (sto : StorageAnswer)
  /-- PWM_BND (R123) -/
  | pwmBnd
  /-- BTN_A (R135) -/
  | btnA
  /-- BTN_B (R136) -/
  | btnB
  /-- REG_RD with the word index (R67, R172) -/
  | regRd (reg : RegIndex)
  /-- REG_WR with the word index and the data (R67, R68, R174) -/
  | regWr (reg : RegIndex) (data : RegWord)
  /-- RESET (R210) -/
  | reset
deriving DecidableEq, Repr

/-- The agents of 00_scope.md R14. The storage collaborator presents no operation: it answers through `btOvf`. -/
inductive Agent where
  | captureTimer
  | processing
  | baseTimer
  | pwmHardware
  | buttonA
  | buttonB
  | host
  | storage
  | resetSource
deriving DecidableEq, Repr

/-- The agent that owns an operation (R14, the agent column of R66). No operation checks it (60_exceptions.md R196). -/
def Instr.agent : Instr → Agent
  | .idle => .host
  | .ctCmp => .captureTimer
  | .ctOvf => .captureTimer
  | .capDone _ _ => .captureTimer
  | .poll => .processing
  | .btOvf _ => .baseTimer
  | .pwmBnd => .pwmHardware
  | .btnA => .buttonA
  | .btnB => .buttonB
  | .regRd _ => .host
  | .regWr _ _ => .host
  | .reset => .resetSource

end Sys2Proof
end

