-- ==== Sys2Proof/Decode.lean ====
section
/-! DEFINITION. The decoder of 30_encoding.md R75, total on every 64-bit word, and the encoder written from the same table
(R65, R66). -/

namespace Sys2Proof

/-- What a word decodes to (R75): one of the twelve operations, or reserved with the code that spells none (R72). -/
inductive Decoded where
  | operation (i : Instr)
  | reserved (op : Opcode)
deriving DecidableEq, Repr

/-! ## Fields (R65, R67 to R70) -/

/-- OP = w[3:0]. -/
def fieldOp (w : OpWord) : Opcode := w.extractLsb' 0 4
/-- REG = w[13:8] (R67). -/
def fieldReg (w : OpWord) : RegIndex := w.extractLsb' 8 6
/-- STO = w[17:16] (R69). -/
def fieldSto (w : OpWord) : BitVec 2 := w.extractLsb' 16 2
/-- DATA = w[63:32] (R68). -/
def fieldData (w : OpWord) : RegWord := w.extractLsb' 32 32
/-- RISE = w[47:32] (R70). -/
def fieldRise (w : OpWord) : Half := w.extractLsb' 32 16
/-- FALL = w[63:48] (R70). -/
def fieldFall (w : OpWord) : Half := w.extractLsb' 48 16

/-- The storage answer a STO field names (R69). -/
def storageAnswerOf (sto : BitVec 2) : StorageAnswer :=
  match sto.toNat with
  | 0 => .ok
  | 1 => .openFail
  | 2 => .writeFail
  | _ => .closeFail

/-- The STO field of a storage answer (R69). -/
def storageCode : StorageAnswer → BitVec 2
  | .ok => 0
  | .openFail => 1
  | .writeFail => 2
  | .closeFail => 3

/-- decode (R75). -/
def decode (w : OpWord) : Decoded :=
  match (fieldOp w).toNat with
  | 0x0 => .operation .idle
  | 0x1 => .operation .ctCmp
  | 0x2 => .operation .ctOvf
  | 0x3 => .operation (.capDone (fieldRise w) (fieldFall w))
  | 0x4 => .operation .poll
  | 0x5 => .operation (.btOvf (storageAnswerOf (fieldSto w)))
  | 0x6 => .operation .pwmBnd
  | 0x7 => .operation .btnA
  | 0x8 => .operation .btnB
  | 0x9 => .operation (.regRd (fieldReg w))
  | 0xA => .operation (.regWr (fieldReg w) (fieldData w))
  | 0xF => .operation .reset
  | _ => .reserved (fieldOp w)

/-! ## Encoding -/

/-- The operation code of R66. -/
def Instr.opcode : Instr → Opcode
  | .idle => 0x0
  | .ctCmp => 0x1
  | .ctOvf => 0x2
  | .capDone _ _ => 0x3
  | .poll => 0x4
  | .btOvf _ => 0x5
  | .pwmBnd => 0x6
  | .btnA => 0x7
  | .btnB => 0x8
  | .regRd _ => 0x9
  | .regWr _ _ => 0xA
  | .reset => 0xF

/-- The word with the given DATA, STO, REG and OP fields and every reserved bit 0: DATA * 2^32 + STO * 2^16 + REG * 2^8 + OP
(R65). -/
def packWord (data : RegWord) (sto : BitVec 2) (reg : RegIndex) (op : Opcode) : OpWord :=
  BitVec.ofNat 64 (data.toNat * 2 ^ 32 + sto.toNat * 2 ^ 16 + reg.toNat * 2 ^ 8 + op.toNat)

/-- The DATA of CAP_DONE: FALL * 2^16 + RISE (R65). -/
def captureData (rise fall : Half) : RegWord := BitVec.ofNat 32 (fall.toNat * 2 ^ 16 + rise.toNat)

/-- The word of an operation, reserved bits and unused fields 0 (R65, R71, R78). -/
def encode : Instr → OpWord
  | .idle => packWord 0 0 0 0x0
  | .ctCmp => packWord 0 0 0 0x1
  | .ctOvf => packWord 0 0 0 0x2
  | .capDone rise fall => packWord (captureData rise fall) 0 0 0x3
  | .poll => packWord 0 0 0 0x4
  | .btOvf sto => packWord 0 (storageCode sto) 0 0x5
  | .pwmBnd => packWord 0 0 0 0x6
  | .btnA => packWord 0 0 0 0x7
  | .btnB => packWord 0 0 0 0x8
  | .regRd reg => packWord 0 0 reg 0x9
  | .regWr reg data => packWord data 0 reg 0xA
  | .reset => packWord 0 0 0 0xF

/-! ## The opcode table's numbering -/

/-- The operation word of an instruction given as the low `nbits` bits of a number, every bit above them 0
(every operation word is exactly 64 bits, R74). -/
def tableWord (nbits w : Nat) : OpWord := BitVec.ofNat 64 (w % 2 ^ nbits)

/-- The instruction the decoder reads from a word of the opcode table; none where it is reserved, and none for a word
longer than the one length there is (R74). -/
def decodeTableWord (nbits w : Nat) : Option Instr :=
  if nbits ≤ 64 then
    match decode (tableWord nbits w) with
    | .operation i => some i
    | .reserved _ => none
  else none

end Sys2Proof
end

