-- ==== Sys2Proof/Config.lean ====
section
/-! DEFINITION. What an implementation of the block fixes: the constants of 00_scope.md R6, the parameters of R7 with
their constraints (R7, R8), and the configuration of a run, accepted or refused (R16, 70_reset_and_hazards.md R213).
The spec gives the parameters no value; `Config.block` is therefore opaque (DESIGN CHOICE, safe: log 1). -/

namespace Sys2Proof

/-! ## Constants the source fixes (R6) -/

/-- STEER_MAX. -/
abbrev steerMax : Nat := 300
/-- SPEED_MAX. -/
abbrev speedMax : Nat := 1000
/-- PAN_MAX. -/
abbrev panMax : Nat := 900
/-- ACT_DIV. -/
abbrev actDiv : Nat := 2
/-- TLM_DIV. -/
abbrev tlmDiv : Nat := 25
/-- MODE_COUNT. -/
abbrev modeCount : Nat := 5
/-- RING_DEPTH: the ring is the three elements RAW0, RAW1, RAW2. -/
abbrev ringDepth : Nat := 3
/-- LINE_LEN. -/
abbrev lineLen : Nat := 10
/-- LED_COUNT: the width of LED. -/
abbrev ledCount : Nat := 3
/-- CHANNELS: the number of duty registers of each bank. -/
abbrev channelCount : Nat := 4

/-! ## Parameters (R7) -/

/-- The duty band of one mapped channel: BASE_c is its bottom and SPAN_c its half width (R7, R8, 90_conflicts.md C2,
C3). `BASE_c >= 0` and `SPAN_c >= 0` hold by the type (log 13). -/
structure Band where
  base : Nat
  span : Nat
deriving DecidableEq, Repr, Inhabited

/-- A configuration as it is given to the block, before its constraints are checked (R7). The default values are those
of the test configuration TC of 95_test_vectors.md; they serve the tests and show that a valid configuration exists, and
`Config.block` is NOT one of them (log 1). -/
structure Params where
  /-- DIST_MAX -/
  distMax : Nat := 400
  /-- DIST_MAX_OVERFLOW -/
  distMaxOverflow : Nat := 4
  /-- TIMER_PERIOD -/
  timerPeriod : Nat := 50000
  /-- TICKS_PER_UNIT -/
  ticksPerUnit : Nat := 58
  /-- FILTER_DELTA -/
  filterDelta : Nat := 20
  /-- BASE_0, SPAN_0 -/
  steer : Band := ⟨3000, 600⟩
  /-- BASE_1, SPAN_1 -/
  speed : Band := ⟨2000, 1000⟩
  /-- BASE_2, SPAN_2 -/
  pan : Band := ⟨1500, 1500⟩
  /-- TILT_DUTY -/
  tiltDuty : Nat := 3300
deriving DecidableEq, Repr, Inhabited

/-- R7, DIST_MAX. -/
abbrev Params.DistMaxOk (p : Params) : Prop := 1 ≤ p.distMax ∧ p.distMax ≤ 999
/-- R7, DIST_MAX_OVERFLOW. -/
abbrev Params.DistMaxOverflowOk (p : Params) : Prop := 1 ≤ p.distMaxOverflow ∧ p.distMaxOverflow ≤ 255
/-- R7, TIMER_PERIOD. -/
abbrev Params.TimerPeriodOk (p : Params) : Prop := 1 ≤ p.timerPeriod ∧ p.timerPeriod ≤ 65536
/-- R7, TICKS_PER_UNIT. -/
abbrev Params.TicksPerUnitOk (p : Params) : Prop := 1 ≤ p.ticksPerUnit ∧ p.ticksPerUnit ≤ 65535
/-- R7, FILTER_DELTA. -/
abbrev Params.FilterDeltaOk (p : Params) : Prop := 9 ≤ p.filterDelta ∧ p.filterDelta ≤ 121
/-- R7, TILT_DUTY. -/
abbrev Params.TiltDutyOk (p : Params) : Prop := p.tiltDuty ≤ 65535
/-- R8: every mapped duty of the channel fits a 16-bit duty register. -/
abbrev Band.Fits (b : Band) : Prop := b.base + 2 * b.span ≤ 65535

/-- Every constraint of R7 and R8. -/
abbrev Params.Valid (p : Params) : Prop :=
  p.DistMaxOk ∧ p.DistMaxOverflowOk ∧ p.TimerPeriodOk ∧ p.TicksPerUnitOk ∧ p.FilterDeltaOk ∧ p.TiltDutyOk ∧
    p.steer.Fits ∧ p.speed.Fits ∧ p.pan.Fits

/-- A configuration whose constraints hold. -/
structure Config where
  params : Params := { }
  valid : params.Valid := by decide
deriving DecidableEq, Repr, Inhabited

/-- The configuration of a run: accepted, or refused because it breaks a constraint (R7, R16, R213). -/
inductive Setup where
  | accepted (c : Config)
  | refused (p : Params) (broken : ¬ p.Valid)
deriving DecidableEq, Repr

/-- The check of R7 and R16 that a model makes before the first operation. -/
def Params.check (p : Params) : Setup :=
  if h : p.Valid then .accepted ⟨p, h⟩ else .refused p h

/-- The parameters a run was given. -/
def Setup.params : Setup → Params
  | .accepted c => c.params
  | .refused p _ => p

/-- The configuration of the block itself: the spec gives none of its values (R7, 91_not_in_source.md N2), so it is an
opaque constant of which only its validity is known. DESIGN CHOICE, safe (log 1). -/
opaque Config.block : Config

end Sys2Proof
end

