-- ==== Sys2Proof/Machine/Units.lean ====
section
/-! DEFINITION. The state of the four units and the records of the output trace, as plain data: every element of
10_state.md R21. Each unit is a structure of its own, since every element has one owner (10_state.md R49). -/

namespace Sys2Proof.Machine

/-- CaptureState (10_state.md R22). The 2-bit codes are `captureCode`; code 3 is never written (log 7). -/
inductive CaptureState where
  | awaitingTrigger
  | awaitingEcho
  | readyToProcess
deriving DecidableEq, Repr

/-- OperatingMode (10_state.md R38). The 3-bit codes are `modeCode`; codes 5 to 7 are never written (log 7). -/
inductive OperatingMode where
  | none
  | basic
  | speed
  | accuracy
  | iot
deriving DecidableEq, Repr

/-- RNG state (10_state.md R21 to R30). -/
structure RngState where
  /-- CSTATE -/
  cstate : CaptureState
  /-- TRIG: the trigger output pin -/
  trig : Bool
  /-- OVF -/
  ovf : BitVec 8
  /-- CAP1: rising-edge timestamp -/
  cap1 : Half
  /-- CAP2: falling-edge timestamp -/
  cap2 : Half
  /-- TIMEOUT -/
  timeout : Bool
  /-- RAW0: newest sample -/
  raw0 : Half
  /-- RAW1: middle sample -/
  raw1 : Half
  /-- RAW2: oldest sample -/
  raw2 : Half
  /-- FDIST -/
  fdist : Half
deriving DecidableEq, Repr

/-- ACT state (10_state.md R31 to R37). -/
structure ActState where
  /-- TGT0: steering setpoint, two's complement -/
  tgt0 : Half
  /-- TGT1: drive speed setpoint, two's complement -/
  tgt1 : Half
  /-- TGT2: camera pan setpoint, two's complement -/
  tgt2 : Half
  /-- ACYC -/
  acyc : BitVec 1
  /-- SHD0 -/
  shd0 : Half
  /-- SHD1 -/
  shd1 : Half
  /-- SHD2 -/
  shd2 : Half
  /-- SHD3: fixed tilt duty -/
  shd3 : Half
  /-- ACT0 -/
  act0 : Half
  /-- ACT1 -/
  act1 : Half
  /-- ACT2 -/
  act2 : Half
  /-- ACT3 -/
  act3 : Half
  /-- APPLY_PENDING -/
  applyPending : Bool
deriving DecidableEq, Repr

/-- MODE state (10_state.md R38 to R40). -/
structure ModeState where
  /-- MODE -/
  mode : OperatingMode
  /-- ARMED -/
  armed : Bool
  /-- LED: bit i drives indicator i -/
  led : BitVec ledCount
deriving DecidableEq, Repr

/-- TLM state (10_state.md R41, R42). -/
structure TlmState where
  /-- TCYC -/
  tcyc : BitVec 5
  /-- HEALTHY -/
  healthy : Bool
deriving DecidableEq, Repr

/-- A record of the output trace (20_memory.md R58). -/
inductive OutRecord where
  /-- TLM(line, sto): the bytes of a status line, byte 0 first, and the storage answer (R53, R155) -/
  | tlm (line : List Byte) (sto : StorageAnswer)
  /-- RD(index, value): the answer of a REG_RD (R172) -/
  | rd (index : RegIndex) (value : RegWord)
deriving DecidableEq, Repr

end Sys2Proof.Machine
end

