-- ==== Sys2Proof/Machine/ResetValues.lean ====
section
/-! DEFINITION. The reset value of every element of 10_state.md R21 (70_reset_and_hazards.md R210). -/

namespace Sys2Proof.Machine

/-- RNG at reset: AWAITING_TRIGGER, everything else 0. -/
def rngReset : RngState :=
  { cstate := .awaitingTrigger, trig := false, ovf := 0, cap1 := 0, cap2 := 0, timeout := false,
    raw0 := 0, raw1 := 0, raw2 := 0, fdist := 0 }

/-- The duty of a mapped channel at reset: BASE_c + SPAN_c, which fits 16 bits by R8. -/
def centreDuty (b : Band) : Half := BitVec.ofNat 16 (b.base + b.span)

/-- ACT at reset: targets 0, channels 0 to 2 at their centre, channel 3 at TILT_DUTY. -/
def actReset (p : Params) : ActState :=
  { tgt0 := 0, tgt1 := 0, tgt2 := 0, acyc := 0,
    shd0 := centreDuty p.steer, shd1 := centreDuty p.speed, shd2 := centreDuty p.pan,
    shd3 := BitVec.ofNat 16 p.tiltDuty,
    act0 := centreDuty p.steer, act1 := centreDuty p.speed, act2 := centreDuty p.pan,
    act3 := BitVec.ofNat 16 p.tiltDuty,
    applyPending := false }

/-- MODE at reset: NONE, unarmed, all indicators off. -/
def modeReset : ModeState := { mode := .none, armed := false, led := 0 }

/-- TLM at reset: counter 0, storage healthy. -/
def tlmReset : TlmState := { tcyc := 0, healthy := true }

end Sys2Proof.Machine
end

