-- ==== Sys2Proof/Machine/State.lean ====
section
/-! DEFINITION. The state of the machine, its state after reset, and the reasons a step can stop. -/

namespace Sys2Proof.Machine

/-- Why a step faults: never. No operation of the block faults, hangs or raises an exception (00_scope.md R16,
60_exceptions.md R185), so the type has no constructor. -/
inductive Fault where
deriving DecidableEq, Repr

/-- Why the model refuses a step. -/
inductive Refusal where
  /-- Raised by an arm of exec for an instruction that has no meaning yet (no arm does). Safe: nothing is claimed of it. -/
  | notModelled (mnemonic : String)
  /-- Raised by the step for a word with OP 0xB to 0xE, which spells no operation (30_encoding.md R72): no state changes,
  nothing is emitted and the run ends here. Safe: the environment must not present such a word. -/
  | reservedOperation (op : Opcode)
  /-- Raised by the step when the configuration of the run breaks a constraint of R7 or R8 (00_scope.md R16). Safe: the
  spec gives such a configuration no meaning. -/
  | configRefused
deriving DecidableEq, Repr

/-- The state of the machine: the four units and the output trace (10_state.md R21), and two fields that are the model's
own: the configuration of the run, which no operation writes (70_reset_and_hazards.md R213, log 1), and the operation
words that the agents present from here on, in the one total order of 20_memory.md R59 (log 2). -/
structure State where
  setup : Setup
  ops : List OpWord
  rng : RngState
  act : ActState
  mode : ModeState
  tlm : TlmState
  trace : List OutRecord
deriving DecidableEq, Repr

/-- The parameters of the run. -/
def State.params (s : State) : Params := s.setup.params

/-- The state at power-on under a given configuration: the reset state of 10_state.md R21, an empty trace and no
operation presented (70_reset_and_hazards.md R211). -/
def State.resetWith (setup : Setup) : State :=
  { setup := setup, ops := [], rng := rngReset, act := actReset setup.params, mode := modeReset, tlm := tlmReset,
    trace := [] }

/-- The machine right after reset, under the configuration of the block itself, which is opaque (log 1). -/
def State.reset : State := State.resetWith (.accepted Config.block)

end Sys2Proof.Machine
end

