-- ==== Sys2Proof/Machine/Flags.lean ====
section
/-! DEFINITION. The codes of the enumerated elements, the indicator patterns, and the four status words that the register
space composes from flags and counters (10_state.md R44 to R48). The block has no condition codes. -/

namespace Sys2Proof.Machine

/-- The 2-bit code of CSTATE (10_state.md R22). -/
def captureCode : CaptureState → BitVec 2
  | .awaitingTrigger => 0
  | .awaitingEcho => 1
  | .readyToProcess => 2

/-- The 3-bit code of MODE (10_state.md R38). -/
def modeCode : OperatingMode → BitVec 3
  | .none => 0
  | .basic => 1
  | .speed => 2
  | .accuracy => 3
  | .iot => 4

/-- The mode of a number, taken mod MODE_COUNT (10_state.md R38, 43_mode.md R135). -/
def modeOfNumber (n : Nat) : OperatingMode :=
  match n % modeCount with
  | 0 => .none
  | 1 => .basic
  | 2 => .speed
  | 3 => .accuracy
  | _ => .iot

/-- The indicators while unarmed: MODE in binary (43_mode.md R137). -/
def indicatorPattern (m : OperatingMode) : BitVec ledCount := modeCode m

/-- The indicators while armed: all lit (43_mode.md R136). -/
def armedPattern : BitVec ledCount := 0b111

/-- RSTAT: [1:0] CSTATE, [2] TRIG, [3] TIMEOUT, [15:8] OVF (R44). -/
def rstatWord (r : RngState) : RegWord :=
  (0#16 ++ r.ovf ++ 0#4 ++ BitVec.ofBool r.timeout ++ BitVec.ofBool r.trig ++ captureCode r.cstate).setWidth 32

/-- PWMSTAT: [0] APPLY_PENDING, [8] ACYC (R45). -/
def pwmstatWord (a : ActState) : RegWord :=
  (0#23 ++ a.acyc ++ 0#7 ++ BitVec.ofBool a.applyPending).setWidth 32

/-- MODESTAT: [2:0] MODE, [3] ARMED, [6:4] LED (R46). -/
def modestatWord (m : ModeState) : RegWord :=
  (0#25 ++ m.led ++ BitVec.ofBool m.armed ++ modeCode m.mode).setWidth 32

/-- TLMSTAT: [0] HEALTHY, [12:8] TCYC (R47). -/
def tlmstatWord (t : TlmState) : RegWord :=
  (0#19 ++ t.tcyc ++ 0#7 ++ BitVec.ofBool t.healthy).setWidth 32

end Sys2Proof.Machine
end

