-- ==== Sys2Proof/Machine/Operands.lean ====
section
/-! DEFINITION. The operand of REG_RD and REG_WR: the register space, its map, and RegRead and RegWrite
(10_state.md R43, 20_memory.md R50 to R57, 45_host_ops.md R172, R174). -/

namespace Sys2Proof.Machine

/-- The registers of the map (10_state.md R43). -/
inductive Register where
  | rstat | fdist | raw0 | raw1 | raw2 | cap1 | cap2
  | tgt0 | tgt1 | tgt2
  | act0 | act1 | act2 | act3
  | shd0 | shd1 | shd2 | shd3
  | pwmstat | modestat | tlmstat
deriving DecidableEq, Repr

/-- The register at a word index, none at a reserved index (R43, R57). -/
def registerAt (i : RegIndex) : Option Register :=
  match i.toNat with
  | 0x00 => some .rstat
  | 0x01 => some .fdist
  | 0x02 => some .raw0
  | 0x03 => some .raw1
  | 0x04 => some .raw2
  | 0x05 => some .cap1
  | 0x06 => some .cap2
  | 0x08 => some .tgt0
  | 0x09 => some .tgt1
  | 0x0A => some .tgt2
  | 0x10 => some .act0
  | 0x11 => some .act1
  | 0x12 => some .act2
  | 0x13 => some .act3
  | 0x14 => some .shd0
  | 0x15 => some .shd1
  | 0x16 => some .shd2
  | 0x17 => some .shd3
  | 0x18 => some .pwmstat
  | 0x20 => some .modestat
  | 0x28 => some .tlmstat
  | _ => none

/-- The word index of a register (R43). -/
def registerIndex : Register → RegIndex
  | .rstat => 0x00
  | .fdist => 0x01
  | .raw0 => 0x02
  | .raw1 => 0x03
  | .raw2 => 0x04
  | .cap1 => 0x05
  | .cap2 => 0x06
  | .tgt0 => 0x08
  | .tgt1 => 0x09
  | .tgt2 => 0x0A
  | .act0 => 0x10
  | .act1 => 0x11
  | .act2 => 0x12
  | .act3 => 0x13
  | .shd0 => 0x14
  | .shd1 => 0x15
  | .shd2 => 0x16
  | .shd3 => 0x17
  | .pwmstat => 0x18
  | .modestat => 0x20
  | .tlmstat => 0x28

/-- The access of a register is RW: a bus write changes it (R43). Every other register is RO. -/
def registerWritable : Register → Bool
  | .tgt0 | .tgt1 | .tgt2 => true
  | _ => false

/-- The 32-bit contents of a register (R43 to R47): unsigned elements zero-extended, targets sign-extended. -/
def registerContents (r : Register) (s : State) : RegWord :=
  match r with
  | .rstat => rstatWord s.rng
  | .fdist => s.rng.fdist.setWidth 32
  | .raw0 => s.rng.raw0.setWidth 32
  | .raw1 => s.rng.raw1.setWidth 32
  | .raw2 => s.rng.raw2.setWidth 32
  | .cap1 => s.rng.cap1.setWidth 32
  | .cap2 => s.rng.cap2.setWidth 32
  | .tgt0 => s.act.tgt0.signExtend 32
  | .tgt1 => s.act.tgt1.signExtend 32
  | .tgt2 => s.act.tgt2.signExtend 32
  | .act0 => s.act.act0.setWidth 32
  | .act1 => s.act.act1.setWidth 32
  | .act2 => s.act.act2.setWidth 32
  | .act3 => s.act.act3.setWidth 32
  | .shd0 => s.act.shd0.setWidth 32
  | .shd1 => s.act.shd1.setWidth 32
  | .shd2 => s.act.shd2.setWidth 32
  | .shd3 => s.act.shd3.setWidth 32
  | .pwmstat => pwmstatWord s.act
  | .modestat => modestatWord s.mode
  | .tlmstat => tlmstatWord s.tlm

/-- RegRead(i) (R172): the word at an index, 0 at a reserved one (R48, R57). -/
def regRead (i : RegIndex) (s : State) : RegWord :=
  match registerAt i with
  | some r => registerContents r s
  | none => 0

/-- RegWrite(i, v) on ACT, which holds all that a bus write can change (R174, R175): a target keeps v[15:0]; a read-only or
reserved index changes nothing. -/
def regWriteAct (i : RegIndex) (v : RegWord) (a : ActState) : ActState :=
  match registerAt i with
  | some .tgt0 => { a with tgt0 := v.setWidth 16 }
  | some .tgt1 => { a with tgt1 := v.setWidth 16 }
  | some .tgt2 => { a with tgt2 := v.setWidth 16 }
  | _ => a

end Sys2Proof.Machine
end

