-- ==== Sys2Proof/Machine/Ops.lean ====
section
/-! DEFINITION. The operations that the meanings share: writing one unit's state, emitting records, the integer primitives
of 00_scope.md R11, and taking the next operation word that an agent presents. The block has no memory and takes no
exception (10_state.md R20, 60_exceptions.md R185), so there is no memory operation and no exception entry here. -/

namespace Sys2Proof.Machine

/-! ## Writes, one unit at a time (10_state.md R49) -/

/-- Write RNG state. -/
def State.setRng (s : State) (r : RngState) : State := { s with rng := r }
/-- Write ACT state. -/
def State.setAct (s : State) (a : ActState) : State := { s with act := a }
/-- Write MODE state. -/
def State.setMode (s : State) (m : ModeState) : State := { s with mode := m }
/-- Write TLM state. -/
def State.setTlm (s : State) (t : TlmState) : State := { s with tlm := t }
/-- emit: append records to the output trace (20_memory.md R58). -/
def State.emit (s : State) (rs : List OutRecord) : State := { s with trace := s.trace ++ rs }
/-- Replace the operation words still to be presented. -/
def State.setOps (s : State) (ws : List OpWord) : State := { s with ops := ws }
/-- Every element of 10_state.md R21 but the trace to its reset value (70_reset_and_hazards.md R210). The configuration is
not an element (R213), and the agents' later operations are not the block's state. -/
def State.resetElements (s : State) : State :=
  { s with rng := rngReset, act := actReset s.params, mode := modeReset, tlm := tlmReset }

/-! ## Integer primitives (00_scope.md R11) -/

/-- clamp(v, lo, hi). -/
def clamp (v lo hi : Int) : Int := if v < lo then lo else if hi < v then hi else v

/-- a div b for b > 0: floor division. Lean's `/` on Int rounds toward minus infinity for a positive divisor. -/
def floorDiv (a b : Int) : Int := a / b

/-! ## The next operation word -/

/-- What a step finds before it runs an operation. -/
inductive Presented where
  /-- The configuration of the run was refused (00_scope.md R16). -/
  | badConfig
  /-- No agent presents an operation: the block waits (70_reset_and_hazards.md R211, 60_exceptions.md R200). -/
  | nothing
  /-- An operation word, and the state with that word taken from those still to be presented. -/
  | word (w : OpWord) (s : State)

/-- Take the next operation word. -/
def takeWord (s : State) : Presented :=
  match s.setup with
  | .refused _ _ => .badConfig
  | .accepted _ =>
    match s.ops with
    | [] => .nothing
    | w :: rest => .word w (s.setOps rest)

end Sys2Proof.Machine
end

