-- ==== Sys2Proof/Machine/Telemetry.lean ====
section
/-! DEFINITION. TLM: the telemetry part of BT_OVF (44_telemetry.md). -/

namespace Sys2Proof.Machine

/-- The ASCII code of a decimal digit: 0x30 plus the digit (R153). -/
def asciiDigit (d : Nat) : Byte := BitVec.ofNat 8 (0x30 + d)

/-- format(d) (R153): "dist:", hundreds, tens, units, CR, LF; byte 0 first (20_memory.md R53). -/
def formatLine (d : Nat) : List Byte :=
  [0x64, 0x69, 0x73, 0x74, 0x3A, asciiDigit ((d / 100) % 10), asciiDigit ((d / 10) % 10), asciiDigit (d % 10), 0x0D, 0x0A]

/-- The calls of the storage collaborator (R155). -/
inductive StorageCall where
  | openAppend
  | writeLine
  | close
deriving DecidableEq, Repr

/-- The calls that one sequence makes, in order, each with whether it succeeds: the first Error aborts the rest (R155,
R69). -/
def storageSequence : StorageAnswer → List (StorageCall × Bool)
  | .ok => [(.openAppend, true), (.writeLine, true), (.close, true)]
  | .openFail => [(.openAppend, false)]
  | .writeFail => [(.openAppend, true), (.writeLine, false)]
  | .closeFail => [(.openAppend, true), (.writeLine, true), (.close, false)]

/-- Every call of the sequence succeeds. -/
def storageSucceeds (sto : StorageAnswer) : Bool := (storageSequence sto).all (fun c => c.2)

/-- This BT_OVF is a telemetry tick: TCYC + 1 = TLM_DIV (R152). -/
abbrev TelemetryTick (t : TlmState) : Prop := t.tcyc.toNat + 1 = tlmDiv

/-- TCYC and HEALTHY after the telemetry part (R152, R155): a failed sequence of an attempt clears HEALTHY, and nothing
here sets it (R157). -/
def telemetryState (sto : StorageAnswer) (t : TlmState) : TlmState :=
  if TelemetryTick t then
    { tcyc := 0, healthy := t.healthy && storageSucceeds sto }
  else
    { t with tcyc := BitVec.ofNat 5 (t.tcyc.toNat + 1) }

/-- The records the telemetry part emits (R152, R155): one for an attempt, whatever its outcome. -/
def telemetryRecords (fdist : Half) (sto : StorageAnswer) (t : TlmState) : List OutRecord :=
  if TelemetryTick t ∧ t.healthy = true then [.tlm (formatLine fdist.toNat) sto] else []

/-- telemetry_part(sto) (R152). -/
def telemetryPart (sto : StorageAnswer) (s : State) : State :=
  (s.setTlm (telemetryState sto s.tlm)).emit (telemetryRecords s.rng.fdist sto s.tlm)

end Sys2Proof.Machine
end

