-- ==== Sys2Proof/Machine/Actuation.lean ====
section
/-! DEFINITION. ACT: BT_OVF (its actuation part here, its telemetry part in Telemetry.lean) and PWM_BND
(42_actuation.md). -/

namespace Sys2Proof.Machine

/-- The channels that have a target: 0 steering, 1 drive speed, 2 camera pan. Channel 3, camera tilt, has none
(10_state.md R36, 42_actuation.md R120). -/
inductive Channel where
  | steering
  | driveSpeed
  | cameraPan
deriving DecidableEq, Repr

/-- One row of the per-channel calibration table (10_state.md R36). -/
structure Calibration where
  /-- BASE_c -/
  minDuty : Nat
  /-- SPAN_c -/
  spanDuty : Nat
  /-- MAX_c -/
  clampMagnitude : Nat
deriving DecidableEq, Repr

/-- The calibration table (10_state.md R36). -/
def calibration (p : Params) : Channel → Calibration
  | .steering => ⟨p.steer.base, p.steer.span, steerMax⟩
  | .driveSpeed => ⟨p.speed.base, p.speed.span, speedMax⟩
  | .cameraPan => ⟨p.pan.base, p.pan.span, panMax⟩

/-- The clamp of a signed target (R117). -/
def clampTarget (c : Calibration) (t : Int) : Int := clamp t (-(c.clampMagnitude : Int)) (c.clampMagnitude : Int)

/-- duty(c, t) for a clamped target t (R118): the product before the division, floor division. -/
def duty (c : Calibration) (t : Int) : Int :=
  (c.minDuty : Int) + floorDiv ((c.spanDuty : Int) * (t + (c.clampMagnitude : Int))) (c.clampMagnitude : Int)

/-- The duty an actuation tick writes for a target register (R117, R118, R119). It fits 16 bits by 00_scope.md R8. -/
def mappedDuty (c : Calibration) (tgt : Half) : Half := BitVec.ofInt 16 (duty c (clampTarget c tgt.toInt))

/-- This BT_OVF is an actuation tick: ACYC + 1 = ACT_DIV (R119). -/
abbrev ActuationTick (a : ActState) : Prop := a.acyc.toNat + 1 = actDiv

/-- actuation_part() (R119). SHD3 is not written. -/
def actuationPart (p : Params) (a : ActState) : ActState :=
  if ActuationTick a then
    { a with
      acyc := 0
      shd0 := mappedDuty (calibration p .steering) a.tgt0
      shd1 := mappedDuty (calibration p .driveSpeed) a.tgt1
      shd2 := mappedDuty (calibration p .cameraPan) a.tgt2
      applyPending := true }
  else
    { a with acyc := BitVec.ofNat 1 (a.acyc.toNat + 1) }

/-- PWM_BND on ACT (R123): all four duties together. -/
def pwmBoundary (a : ActState) : ActState :=
  if a.applyPending then
    { a with act0 := a.shd0, act1 := a.shd1, act2 := a.shd2, act3 := a.shd3, applyPending := false }
  else a

/-! ## Meanings -/

/-- BT_OVF (R116): the actuation part, then the telemetry part. -/
def execBtOvf (sto : StorageAnswer) (s : State) : Host.Outcome State Fault Refusal :=
  .next (telemetryPart sto (s.setAct (actuationPart s.params s.act)))

/-- PWM_BND (R123). -/
def execPwmBnd (s : State) : Host.Outcome State Fault Refusal := .next (s.setAct (pwmBoundary s.act))

end Sys2Proof.Machine
end

