-- ==== Sys2Proof/Machine/HostOps.lean ====
section
/-! DEFINITION. The host's operations IDLE, REG_RD and REG_WR (45_host_ops.md). -/

namespace Sys2Proof.Machine

/-- IDLE (R170): no change. -/
def execIdle (s : State) : Host.Outcome State Fault Refusal := .next s

/-- REG_RD (R172): emit RD(REG, v), which is also the value the host is given (00_scope.md R16); no element changes
(20_memory.md R56). -/
def execRegRd (reg : RegIndex) (s : State) : Host.Outcome State Fault Refusal :=
  .next (s.emit [.rd reg (regRead reg s)])

/-- REG_WR (R174). -/
def execRegWr (reg : RegIndex) (data : RegWord) (s : State) : Host.Outcome State Fault Refusal :=
  .next (s.setAct (regWriteAct reg data s.act))

end Sys2Proof.Machine
end

