-- ==== Sys2Proof/Machine/Mode.lean ====
section
/-! DEFINITION. MODE: BTN_A and BTN_B (43_mode.md). -/

namespace Sys2Proof.Machine

/-- The next mode of the cycle: (MODE + 1) mod MODE_COUNT (R135). -/
def nextMode (m : OperatingMode) : OperatingMode := modeOfNumber ((modeCode m).toNat + 1)

/-- BTN_A on MODE (R135): ignored while armed. -/
def buttonA (m : ModeState) : ModeState :=
  if m.armed then m
  else { m with mode := nextMode m.mode, led := indicatorPattern (nextMode m.mode) }

/-- BTN_B on MODE (R136): arm and keep the mode, or disarm to NONE. -/
def buttonB (m : ModeState) : ModeState :=
  if m.armed then { armed := false, mode := .none, led := 0b000 }
  else { m with armed := true, led := armedPattern }

/-! ## Meanings -/

/-- BTN_A (R135). -/
def execBtnA (s : State) : Host.Outcome State Fault Refusal := .next (s.setMode (buttonA s.mode))

/-- BTN_B (R136). -/
def execBtnB (s : State) : Host.Outcome State Fault Refusal := .next (s.setMode (buttonB s.mode))

end Sys2Proof.Machine
end

