-- ==== Sys2Proof/Machine/Ranging.lean ====
section
/-! DEFINITION. RNG: CT_CMP, CT_OVF, CAP_DONE and POLL (40_ranging.md), the distance computation and the three-point
filter (41_distance_filter.md). -/

namespace Sys2Proof.Machine

/-! ## Distance and filter -/

/-- Elapsed ticks, on mathematical integers (R102). -/
def elapsedTicks (p : Params) (r : RngState) : Int :=
  ((r.cap2.toNat : Int) - (r.cap1.toNat : Int)) + (r.ovf.toNat : Int) * (p.timerPeriod : Int)

/-- sample() (R103): DIST_MAX after a timeout (R101), else the elapsed ticks in distance units, clamped to [0, DIST_MAX]. -/
def sample (p : Params) (r : RngState) : Int :=
  if r.timeout then (p.distMax : Int)
  else clamp (floorDiv (elapsedTicks p r) (p.ticksPerUnit : Int)) 0 (p.distMax : Int)

/-- filter(r0, r1, r2) (R105): the newest sample on a spike, else the middle one. Not a median (R111), no other stage
(R110). -/
def spikeFilter (delta : Nat) (r0 r1 r2 : Half) : Half :=
  if delta < ((r1.toNat : Int) - (r2.toNat : Int)).natAbs then r0 else r1

/-! ## The state machine (R86) -/

/-- CT_CMP on RNG (R81). -/
def rngCtCmp (r : RngState) : RngState :=
  match r.cstate, r.trig with
  | .awaitingTrigger, false => { r with trig := true }
  | _, _ => r

/-- CT_OVF on RNG (R82). The increment is on integers and stored in the 8 bits of OVF, which holds it in every reachable
state (R83, log 6). -/
def rngCtOvf (p : Params) (r : RngState) : RngState :=
  match r.cstate with
  | .awaitingTrigger =>
    if r.trig then { r with trig := false, cstate := .awaitingEcho, ovf := 0 } else r
  | .awaitingEcho =>
    let n := r.ovf.toNat + 1
    let r1 := { r with ovf := BitVec.ofNat 8 n }
    if p.distMaxOverflow ≤ n then { r1 with cstate := .readyToProcess, timeout := true } else r1
  | .readyToProcess => r

/-- CAP_DONE on RNG (R84). -/
def rngCapDone (rise fall : Half) (r : RngState) : RngState :=
  match r.cstate with
  | .awaitingEcho => { r with cap1 := rise, cap2 := fall, timeout := false, cstate := .readyToProcess }
  | _ => r

/-- POLL on RNG (R87, R88): the sample, the ring rotation, the filter on the rotated ring, and back to AWAITING_TRIGGER.
The sample fits 16 bits since it lies in [0, DIST_MAX] (R103). -/
def rngPoll (p : Params) (r : RngState) : RngState :=
  match r.cstate with
  | .readyToProcess =>
    let d := BitVec.ofInt 16 (sample p r)
    { r with
      raw2 := r.raw1
      raw1 := r.raw0
      raw0 := d
      fdist := spikeFilter p.filterDelta d r.raw0 r.raw1
      cstate := .awaitingTrigger
      ovf := 0 }
  | _ => r

/-! ## Meanings -/

/-- CT_CMP (R81). -/
def execCtCmp (s : State) : Host.Outcome State Fault Refusal := .next (s.setRng (rngCtCmp s.rng))

/-- CT_OVF (R82). -/
def execCtOvf (s : State) : Host.Outcome State Fault Refusal := .next (s.setRng (rngCtOvf s.params s.rng))

/-- CAP_DONE (R84). -/
def execCapDone (rise fall : Half) (s : State) : Host.Outcome State Fault Refusal :=
  .next (s.setRng (rngCapDone rise fall s.rng))

/-- POLL (R87, R88). It emits no record (R91). -/
def execPoll (s : State) : Host.Outcome State Fault Refusal := .next (s.setRng (rngPoll s.params s.rng))

end Sys2Proof.Machine
end

