-- ==== Sys2Proof/Machine/ResetOp.lean ====
section
/-! DEFINITION. RESET (70_reset_and_hazards.md). -/

namespace Sys2Proof.Machine

/-- RESET (R210): every element but the trace to its reset value; nothing is emitted. -/
def execReset (s : State) : Host.Outcome State Fault Refusal := .next s.resetElements

end Sys2Proof.Machine
end

