-- ==== Sys2Proof/Machine/Dispatch.lean ====
section
/-! DEFINITION. One arm for each operation of 30_encoding.md R66. -/

namespace Sys2Proof.Machine

-- The rows of spec/opcode_table.json in the table's order.
def exec (i : Instr) (s : State) : Host.Outcome State Fault Refusal :=
  match i with
  | .idle => Sys2Proof.Machine.execIdle s
  | .ctCmp => Sys2Proof.Machine.execCtCmp s
  | .ctOvf => Sys2Proof.Machine.execCtOvf s
  | .capDone rise fall => Sys2Proof.Machine.execCapDone rise fall s
  | .poll => Sys2Proof.Machine.execPoll s
  | .btOvf sto => Sys2Proof.Machine.execBtOvf sto s
  | .pwmBnd => Sys2Proof.Machine.execPwmBnd s
  | .btnA => Sys2Proof.Machine.execBtnA s
  | .btnB => Sys2Proof.Machine.execBtnB s
  | .regRd reg => Sys2Proof.Machine.execRegRd reg s
  | .regWr reg data => Sys2Proof.Machine.execRegWr reg data s
  | .reset => Sys2Proof.Machine.execReset s

end Sys2Proof.Machine
end

