-- ==== Sys2Proof/Machine/Step.lean ====
section
/-! DEFINITION. One step: the block applies the next operation word that an agent presents (00_scope.md R15, R16). -/

namespace Sys2Proof.Machine

/-- One step. A refused configuration refuses every step (R16). With no operation presented the block waits and holds its
state (60_exceptions.md R200, 70_reset_and_hazards.md R211, log 3). A reserved word is refused (30_encoding.md R72). -/
def step (s : State) : Host.Outcome State Fault Refusal :=
  match takeWord s with
  | .badConfig => .refused .configRefused
  | .nothing => .next s
  | .word w s1 =>
    match decode w with
    | .operation i => exec i s1
    | .reserved op => .refused (.reservedOperation op)

/-- An agent presents one more operation word, before those still to come: the very next step takes it (log 2). The word
is the low `nbits` bits of `w`, every bit above them 0. -/
def State.withFetchWord (s : State) (nbits w : Nat) : State := s.setOps (tableWord nbits w :: s.ops)

end Sys2Proof.Machine
end

