-- ==== Sys2Proof/Machine/Asm.lean ====
section
/-! DEFINITION. The assembly syntax and the pseudo-operations of 30_encoding.md R76 and R77: one operation a line, to
operation words. It is no part of a step; it says which words a line of the spec's programs stands for. Spaces and tabs
separate, a comma stands between two operands, names are written in the capitals the spec gives them (DESIGN CHOICE, safe:
log 14). -/

namespace Sys2Proof.Machine

/-- A token of a line. -/
inductive AsmToken where
  | word (cs : List Char)
  | comma
deriving DecidableEq, Repr

/-- The token of the characters collected so far, last character first; none of an empty collection. -/
def asmFlush (acc : List Char) : List AsmToken := if acc.isEmpty then [] else [.word acc.reverse]

/-- The tokens of a line; `;` starts a comment (R76). -/
def asmTokens : List Char → List Char → List AsmToken
  | acc, [] => asmFlush acc
  | acc, c :: cs =>
    if c = ';' then asmFlush acc
    else if c = ' ' ∨ c = '\t' then asmFlush acc ++ asmTokens [] cs
    else if c = ',' then asmFlush acc ++ .comma :: asmTokens [] cs
    else asmTokens (c :: acc) cs

/-- The value of a digit in base 10 or 16. -/
def asmDigit (base : Nat) (c : Char) : Option Nat :=
  let v :=
    if '0' ≤ c ∧ c ≤ '9' then c.toNat - '0'.toNat
    else if 'a' ≤ c ∧ c ≤ 'f' then c.toNat - 'a'.toNat + 10
    else if 'A' ≤ c ∧ c ≤ 'F' then c.toNat - 'A'.toNat + 10
    else 16
  if v < base then some v else none

/-- The number that digits spell after the value collected so far. -/
def asmDigits (base : Nat) : Nat → List Char → Option Nat
  | acc, [] => some acc
  | acc, c :: cs => (asmDigit base c).bind fun d => asmDigits base (base * acc + d) cs

/-- A number, decimal or hexadecimal with 0x (R76). -/
def asmNumber (cs : List Char) : Option Nat :=
  match cs with
  | [] => none
  | '0' :: 'x' :: d :: ds => asmDigits 16 0 (d :: ds)
  | ds => asmDigits 10 0 ds

/-- A timestamp, 0 to 65535 (R76). -/
def asmHalf (cs : List Char) : Option Half :=
  (asmNumber cs).bind fun n => if n < 2 ^ 16 then some (BitVec.ofNat 16 n) else none

/-- A 32-bit value, or a negative decimal for its two's-complement encoding (R68, R76). -/
def asmData (cs : List Char) : Option RegWord :=
  match cs with
  | '-' :: d :: ds =>
    (asmDigits 10 0 (d :: ds)).bind fun n => if n ≤ 2 ^ 31 then some (BitVec.ofInt 32 (-(n : Int))) else none
  | ds => (asmNumber ds).bind fun n => if n < 2 ^ 32 then some (BitVec.ofNat 32 n) else none

/-- The names of the registers (10_state.md R43); STEER, SPEED and PAN are the map's second names of the targets. -/
def asmRegisterNames : List (List Char × Register) :=
  [("RSTAT".toList, .rstat), ("FDIST".toList, .fdist), ("RAW0".toList, .raw0), ("RAW1".toList, .raw1),
   ("RAW2".toList, .raw2), ("CAP1".toList, .cap1), ("CAP2".toList, .cap2),
   ("TGT0".toList, .tgt0), ("STEER".toList, .tgt0), ("TGT1".toList, .tgt1), ("SPEED".toList, .tgt1),
   ("TGT2".toList, .tgt2), ("PAN".toList, .tgt2)] ++
  [("ACT0".toList, .act0), ("ACT1".toList, .act1), ("ACT2".toList, .act2), ("ACT3".toList, .act3),
   ("SHD0".toList, .shd0), ("SHD1".toList, .shd1), ("SHD2".toList, .shd2), ("SHD3".toList, .shd3),
   ("PWMSTAT".toList, .pwmstat), ("MODESTAT".toList, .modestat), ("TLMSTAT".toList, .tlmstat)]

/-- A register: its name, or an index 0 to 63 (R76). -/
def asmRegister (cs : List Char) : Option RegIndex :=
  match asmRegisterNames.lookup cs with
  | some r => some (registerIndex r)
  | none => (asmNumber cs).bind fun n => if n < 2 ^ 6 then some (BitVec.ofNat 6 n) else none

/-- A storage answer by its name (R69, R76). -/
def asmStorage (cs : List Char) : Option StorageAnswer :=
  [("OK".toList, StorageAnswer.ok), ("OPEN_FAIL".toList, .openFail), ("WRITE_FAIL".toList, .writeFail),
   ("CLOSE_FAIL".toList, .closeFail)].lookup cs

/-- The operations written without an operand, with the pseudo-operations TRIGGER and TICK and the default answer of BT_OVF
(R76, R77). -/
def asmPlain : List (List Char × List Instr) :=
  [("IDLE".toList, [.idle]), ("CT_CMP".toList, [.ctCmp]), ("CT_OVF".toList, [.ctOvf]), ("POLL".toList, [.poll]),
   ("BT_OVF".toList, [.btOvf .ok]), ("PWM_BND".toList, [.pwmBnd]), ("BTN_A".toList, [.btnA]), ("BTN_B".toList, [.btnB]),
   ("RESET".toList, [.reset]), ("TRIGGER".toList, [.ctCmp, .ctOvf]), ("TICK".toList, [.btOvf .ok])]

/-- The setpoint pseudo-operations and the target each writes (R77). -/
def asmSetpoints : List (List Char × Register) :=
  [("SETSTEER".toList, .tgt0), ("SETSPEED".toList, .tgt1), ("SETPAN".toList, .tgt2)]

/-- The operations of one line that is no REP (R76, R77). -/
def asmSimple (ts : List AsmToken) : Option (List Instr) :=
  match ts with
  | [] => some []
  | [.word m] => asmPlain.lookup m
  | [.word m, .word a] =>
    if m = "BT_OVF".toList then (asmStorage a).map fun x => [.btOvf x]
    else if m = "REG_RD".toList then (asmRegister a).map fun r => [.regRd r]
    else (asmSetpoints.lookup m).bind fun r => (asmData a).map fun v => [.regWr (registerIndex r) v]
  | [.word m, .word a, .comma, .word b] =>
    if m = "CAP_DONE".toList then (asmHalf a).bind fun x => (asmHalf b).map fun y => [.capDone x y]
    else if m = "REG_WR".toList then (asmRegister a).bind fun r => (asmData b).map fun v => [.regWr r v]
    else none
  | _ => none

/-- The operations of one line; `REP n, op` is n copies of the operation, n at least 1 (R77). None where the line spells
nothing. -/
def asmLine (ts : List AsmToken) : Option (List Instr) :=
  match ts with
  | .word m :: .word n :: .comma :: t :: rest =>
    if m = "REP".toList then
      (asmNumber n).bind fun k =>
        if 1 ≤ k then (asmSimple (t :: rest)).map fun is => (List.replicate k is).flatten else none
    else asmSimple ts
  | _ => asmSimple ts

/-- The operation words of a line of text (R76, R77, R78). -/
def assembleLine (line : String) : Option (List OpWord) :=
  (asmLine (asmTokens [] line.toList)).map fun is => is.map encode

/-- The operation words of a program, one line after another. -/
def assemble : List String → Option (List OpWord)
  | [] => some []
  | l :: ls => (assembleLine l).bind fun ws => (assemble ls).map fun rest => ws ++ rest

end Sys2Proof.Machine
end

