-- ==== Sys2Proof/WellFormed.lean ====
section
/-! DEFINITION. Well-formedness. Operands are bit vectors of exactly the width their field has (30_encoding.md R65), so
every term of Instr is well formed by its type. What can be ill formed is an operation WORD: one that spells no operation
(R72), and one that sets a reserved bit (R71: such a word should not be formed, and the block ignores those bits). The
third check, the constraints of R7 and R8 on a configuration, is `Params.Valid` of Config.lean. -/

namespace Sys2Proof

/-- Every operand value of every operation is admitted (R67, R68, R69, R70). -/
def Instr.WellFormed : Instr → Bool
  | .idle => true
  | .ctCmp => true
  | .ctOvf => true
  | .capDone _ _ => true
  | .poll => true
  | .btOvf _ => true
  | .pwmBnd => true
  | .btnA => true
  | .btnB => true
  | .regRd _ => true
  | .regWr _ _ => true
  | .reset => true

/-- The bits an operation of this code uses: OP and the operand fields that R65 and R75 give it. All other bits of the word
are reserved for it (R71). -/
def usedBits (op : Opcode) : OpWord :=
  if op = 0x3 then 0xFFFFFFFF0000000F        -- CAP_DONE: RISE, FALL, OP
  else if op = 0x5 then 0x000000000003000F   -- BT_OVF: STO, OP
  else if op = 0x9 then 0x0000000000003F0F   -- REG_RD: REG, OP
  else if op = 0xA then 0xFFFFFFFF00003F0F   -- REG_WR: DATA, REG, OP
  else 0x000000000000000F

/-- The word spells an operation: its OP is not in 0xB to 0xE (R72). -/
def OpWord.SpellsOperation (w : OpWord) : Bool :=
  let op := w.extractLsb' 0 4
  !(0xB ≤ op.toNat && op.toNat ≤ 0xE)

/-- No reserved bit of the word is set (R71). -/
def OpWord.ReservedClear (w : OpWord) : Bool :=
  w &&& ~~~(usedBits (w.extractLsb' 0 4)) == 0

/-- A word as an agent should form it (R71, R72). -/
def OpWord.WellFormed (w : OpWord) : Bool := OpWord.SpellsOperation w && OpWord.ReservedClear w

end Sys2Proof
end

