-- ==== Sys2Proof/Safety.lean ====
section
/-! DEFINITION. What the claims speak of: sequences of operations, the legal states, runs that never stop, the elements and
their writers, the error conditions, and the pairs of operations whose order matters. -/

namespace Sys2Proof.Machine

/-- Apply operations one after another (00_scope.md R15). -/
def execAll : List Instr → State → Host.Outcome State Fault Refusal
  | [], s => .next s
  | i :: is, s =>
    match exec i s with
    | .next t => execAll is t
    | .fault r => .fault r
    | .refused r => .refused r

/-- The operation is a BT_OVF. -/
def isBtOvf : Instr → Bool
  | .btOvf _ => true
  | .idle | .ctCmp | .ctOvf | .capDone _ _ | .poll | .pwmBnd | .btnA | .btnB | .regRd _ | .regWr _ _ | .reset => false

/-! ## Legal states -/

/-- What holds of RNG in every reachable state. -/
structure RngInv (p : Params) (r : RngState) : Prop where
  /-- TRIG is 1 only while CSTATE = 0 (10_state.md R24). -/
  trig_only_awaiting_trigger : r.trig = true → r.cstate = .awaitingTrigger
  /-- OVF never exceeds DIST_MAX_OVERFLOW (10_state.md R25, 40_ranging.md R83). -/
  ovf_le : r.ovf.toNat ≤ p.distMaxOverflow
  /-- While CSTATE = 1, OVF < DIST_MAX_OVERFLOW (R83). -/
  ovf_lt_awaiting_echo : r.cstate = .awaitingEcho → r.ovf.toNat < p.distMaxOverflow
  /-- A timed-out cycle that waits for its POLL has used the whole budget (R82). -/
  ovf_eq_timed_out : r.cstate = .readyToProcess → r.timeout = true → r.ovf.toNat = p.distMaxOverflow
  /-- OVF is 0 in AWAITING_TRIGGER (R88, 70_reset_and_hazards.md R210). -/
  ovf_zero_awaiting_trigger : r.cstate = .awaitingTrigger → r.ovf = 0
  /-- Every sample and FDIST lie in [0, DIST_MAX] (10_state.md R21, R28; 41_distance_filter.md R106). -/
  raw0_le : r.raw0.toNat ≤ p.distMax
  raw1_le : r.raw1.toNat ≤ p.distMax
  raw2_le : r.raw2.toNat ≤ p.distMax
  fdist_le : r.fdist.toNat ≤ p.distMax
  /-- FDIST is one of the three most recent samples (10_state.md R30). -/
  fdist_mem : r.fdist = r.raw0 ∨ r.fdist = r.raw1 ∨ r.fdist = r.raw2

/-- A duty lies in the band [BASE_c, BASE_c + 2*SPAN_c] of its channel (42_actuation.md R121). -/
abbrev InBand (b : Band) (d : Half) : Prop := b.base ≤ d.toNat ∧ d.toNat ≤ b.base + 2 * b.span

/-- What holds of ACT in every reachable state. -/
structure ActInv (p : Params) (a : ActState) : Prop where
  shd0_band : InBand p.steer a.shd0
  shd1_band : InBand p.speed a.shd1
  shd2_band : InBand p.pan a.shd2
  act0_band : InBand p.steer a.act0
  act1_band : InBand p.speed a.act1
  act2_band : InBand p.pan a.act2
  /-- SHD3 and ACT3 hold TILT_DUTY (R120). -/
  shd3_tilt : a.shd3.toNat = p.tiltDuty
  act3_tilt : a.act3.toNat = p.tiltDuty
  /-- With no apply pending the shadow and the active duties agree (R123). -/
  settled : a.applyPending = false → a.shd0 = a.act0 ∧ a.shd1 = a.act1 ∧ a.shd2 = a.act2 ∧ a.shd3 = a.act3

/-- What holds of MODE in every reachable state (43_mode.md R139). -/
structure ModeInv (m : ModeState) : Prop where
  led_armed : m.armed = true → m.led = armedPattern
  led_unarmed : m.armed = false → m.led = indicatorPattern m.mode

/-- What holds of TLM in every reachable state (10_state.md R41). -/
structure TlmInv (t : TlmState) : Prop where
  tcyc_lt : t.tcyc.toNat < tlmDiv

/-- A telemetry line is LINE_LEN bytes (00_scope.md R6, 20_memory.md R58). -/
abbrev RecordOk : OutRecord → Prop
  | .tlm line _ => line.length = lineLen
  | .rd _ _ => True

/-- The invariant of the whole machine. -/
structure LegalState (s : State) : Prop where
  rng : RngInv s.params s.rng
  act : ActInv s.params s.act
  mode : ModeInv s.mode
  tlm : TlmInv s.tlm
  trace : ∀ r ∈ s.trace, RecordOk r

/-! ## Runs that never stop -/

/-- A state from which no step stops: the configuration was accepted and no presented word is reserved (00_scope.md R16,
30_encoding.md R72). -/
structure SafeState (s : State) : Prop where
  configured : ∃ c, s.setup = .accepted c
  words : ∀ w ∈ s.ops, OpWord.SpellsOperation w = true

/-! ## Elements and their writers (10_state.md R49) -/

/-- The elements of 10_state.md R21, the output trace apart. -/
inductive Element where
  | cstate | trig | ovf | cap1 | cap2 | timeout | raw0 | raw1 | raw2 | fdist
  | tgt0 | tgt1 | tgt2 | acyc | shd0 | shd1 | shd2 | shd3 | act0 | act1 | act2 | act3 | applyPending
  | mode | armed | led | tcyc | healthy
deriving DecidableEq, Repr

/-- The value of an element as an unsigned number of its width. -/
def Element.value (e : Element) (s : State) : Nat :=
  match e with
  | .cstate => (captureCode s.rng.cstate).toNat
  | .trig => s.rng.trig.toNat
  | .ovf => s.rng.ovf.toNat
  | .cap1 => s.rng.cap1.toNat
  | .cap2 => s.rng.cap2.toNat
  | .timeout => s.rng.timeout.toNat
  | .raw0 => s.rng.raw0.toNat
  | .raw1 => s.rng.raw1.toNat
  | .raw2 => s.rng.raw2.toNat
  | .fdist => s.rng.fdist.toNat
  | .tgt0 => s.act.tgt0.toNat
  | .tgt1 => s.act.tgt1.toNat
  | .tgt2 => s.act.tgt2.toNat
  | .acyc => s.act.acyc.toNat
  | .shd0 => s.act.shd0.toNat
  | .shd1 => s.act.shd1.toNat
  | .shd2 => s.act.shd2.toNat
  | .shd3 => s.act.shd3.toNat
  | .act0 => s.act.act0.toNat
  | .act1 => s.act.act1.toNat
  | .act2 => s.act.act2.toNat
  | .act3 => s.act.act3.toNat
  | .applyPending => s.act.applyPending.toNat
  | .mode => (modeCode s.mode.mode).toNat
  | .armed => s.mode.armed.toNat
  | .led => s.mode.led.toNat
  | .tcyc => s.tlm.tcyc.toNat
  | .healthy => s.tlm.healthy.toNat

/-- The opcodes of the operations that R49 lists as writers of an element. -/
def Element.writers : Element → List Opcode
  | .cstate | .trig | .ovf => [0x1, 0x2, 0x3, 0x4, 0xF]
  | .cap1 | .cap2 => [0x3, 0xF]
  | .timeout => [0x3, 0x2, 0xF]
  | .raw0 | .raw1 | .raw2 | .fdist => [0x4, 0xF]
  | .tgt0 | .tgt1 | .tgt2 => [0xA, 0xF]
  | .acyc | .shd0 | .shd1 | .shd2 => [0x5, 0xF]
  | .applyPending => [0x5, 0x6, 0xF]
  | .shd3 => [0xF]
  | .act0 | .act1 | .act2 | .act3 => [0x6, 0xF]
  | .mode | .armed | .led => [0x7, 0x8, 0xF]
  | .tcyc | .healthy => [0x5, 0xF]

/-- R49 lists the operation as a writer of the element. -/
abbrev Element.WrittenBy (e : Element) (i : Instr) : Prop := i.opcode ∈ e.writers

/-- The elements that a register is made of (10_state.md R43 to R47). -/
def registerElements : Register → List Element
  | .rstat => [.cstate, .trig, .timeout, .ovf]
  | .fdist => [.fdist]
  | .raw0 => [.raw0]
  | .raw1 => [.raw1]
  | .raw2 => [.raw2]
  | .cap1 => [.cap1]
  | .cap2 => [.cap2]
  | .tgt0 => [.tgt0]
  | .tgt1 => [.tgt1]
  | .tgt2 => [.tgt2]
  | .act0 => [.act0]
  | .act1 => [.act1]
  | .act2 => [.act2]
  | .act3 => [.act3]
  | .shd0 => [.shd0]
  | .shd1 => [.shd1]
  | .shd2 => [.shd2]
  | .shd3 => [.shd3]
  | .pwmstat => [.applyPending, .acyc]
  | .modestat => [.mode, .armed, .led]
  | .tlmstat => [.healthy, .tcyc]

/-- The elements read at an index: none at a reserved one (R57). -/
def elementsAt (i : RegIndex) : List Element :=
  match registerAt i with
  | some r => registerElements r
  | none => []

/-! ## Error conditions (60_exceptions.md R186) -/

/-- The conditions E1 to E5; the block stores no code (R186). -/
inductive ErrorCondition where
  /-- E1: no echo within the overflow budget -/
  | sensorTimeout
  /-- E2 -/
  | storageOpen
  /-- E3 -/
  | storageWrite
  /-- E4 -/
  | storageClose
  /-- E5: the target of a channel is out of range at an actuation tick -/
  | targetOutOfRange (c : Channel)
deriving DecidableEq, Repr

/-- The target register of a channel (10_state.md R36). -/
def targetOf (a : ActState) : Channel → Half
  | .steering => a.tgt0
  | .driveSpeed => a.tgt1
  | .cameraPan => a.tgt2

/-- The shadow duty of a channel (10_state.md R33, R36). -/
def shadowOf (a : ActState) : Channel → Half
  | .steering => a.shd0
  | .driveSpeed => a.shd1
  | .cameraPan => a.shd2

/-- The active duty of a channel (10_state.md R34, R36). -/
def activeOf (a : ActState) : Channel → Half
  | .steering => a.act0
  | .driveSpeed => a.act1
  | .cameraPan => a.act2

/-- The word index of the target of a channel (10_state.md R36, R43). -/
def targetIndex : Channel → RegIndex
  | .steering => 0x08
  | .driveSpeed => 0x09
  | .cameraPan => 0x0A

/-- E5 of one channel (42_actuation.md R117). -/
def clampErrors (p : Params) (a : ActState) (c : Channel) : List ErrorCondition :=
  if clampTarget (calibration p c) (targetOf a c).toInt = (targetOf a c).toInt then [] else [.targetOutOfRange c]

/-- E2, E3 or E4 of a telemetry tick that attempts (44_telemetry.md R155). -/
def storageErrors : StorageAnswer → List ErrorCondition
  | .ok => []
  | .openFail => [.storageOpen]
  | .writeFail => [.storageWrite]
  | .closeFail => [.storageClose]

/-- This operation is a telemetry tick that attempts (R152). -/
abbrev Attempts (t : TlmState) : Prop := TelemetryTick t ∧ t.healthy = true

/-- The error conditions an operation detects in a state (R186). -/
def detectedErrors (i : Instr) (s : State) : List ErrorCondition :=
  match i with
  | .ctOvf =>
    if s.rng.cstate = .awaitingEcho ∧ s.params.distMaxOverflow ≤ s.rng.ovf.toNat + 1 then [.sensorTimeout] else []
  | .btOvf sto =>
    (if ActuationTick s.act then
      clampErrors s.params s.act .steering ++ clampErrors s.params s.act .driveSpeed ++
        clampErrors s.params s.act .cameraPan
    else []) ++
    (if Attempts s.tlm then storageErrors sto else [])
  | .idle | .ctCmp | .capDone _ _ | .poll | .pwmBnd | .btnA | .btnB | .regRd _ | .regWr _ _ | .reset => []

/-- The condition is a clamp, which nothing records (E5). -/
def ErrorCondition.isClamp : ErrorCondition → Bool
  | .targetOutOfRange _ => true
  | .sensorTimeout | .storageOpen | .storageWrite | .storageClose => false

/-! ## Order of two operations (60_exceptions.md R192) -/

/-- The index is that of a target register (10_state.md R43). -/
abbrev IsTargetIndex (i : RegIndex) : Prop := i = 0x08 ∨ i = 0x09 ∨ i = 0x0A

/-- The operation emits a record in this state (20_memory.md R58). -/
def Emits (i : Instr) (s : State) : Prop := (∃ r, i = .regRd r) ∨ ((∃ x, i = .btOvf x) ∧ Attempts s.tlm)

/-- The operation can change state or emit a record in some state: all but IDLE and a write that R174 ignores. -/
def CanAct (i : Instr) : Prop := i ≠ .idle ∧ ∀ r v, i = .regWr r v → IsTargetIndex r

/-- The pairs of the table of R192, row by row, each with the state in which it says the order matters. -/
def OrderListed (s : State) (i j : Instr) : Prop :=
  (i = .ctCmp ∧ j = .ctOvf ∧ s.rng.cstate = .awaitingTrigger ∧ s.rng.trig = false) ∨
  (i = .ctCmp ∧ j = .poll ∧ s.rng.cstate = .readyToProcess) ∨
  (i = .ctOvf ∧ (∃ a b, j = .capDone a b) ∧ s.rng.cstate = .awaitingTrigger ∧ s.rng.trig = true) ∨
  (i = .ctOvf ∧ (∃ a b, j = .capDone a b) ∧ s.rng.cstate = .awaitingEcho) ∨
  (i = .poll ∧ (∃ x, j = .btOvf x) ∧ Attempts s.tlm ∧ s.rng.cstate = .readyToProcess) ∨
  ((∃ r v, i = .regWr r v ∧ IsTargetIndex r) ∧ (∃ x, j = .btOvf x) ∧ ActuationTick s.act) ∨
  ((∃ x, i = .btOvf x) ∧ j = .pwmBnd ∧ ActuationTick s.act) ∨
  (i = .btnA ∧ j = .btnB) ∨
  (∃ r, i = .regRd r ∧ ∃ e ∈ elementsAt r, e.WrittenBy j) ∨
  (i = .reset ∧ CanAct j) ∨
  (∃ a b c d, i = .capDone a b ∧ j = .capDone c d ∧ (a ≠ c ∨ b ≠ d) ∧ s.rng.cstate = .awaitingEcho) ∨
  (∃ x y, i = .btOvf x ∧ j = .btOvf y ∧ x ≠ y ∧ s.tlm.healthy = true ∧
    (s.tlm.tcyc.toNat + 1 = tlmDiv ∨ s.tlm.tcyc.toNat + 2 = tlmDiv)) ∨
  (∃ r v v', i = .regWr r v ∧ j = .regWr r v' ∧ IsTargetIndex r ∧ v.extractLsb' 0 16 ≠ v'.extractLsb' 0 16) ∨
  (Emits i s ∧ Emits j s)

/-- The two pairs whose order matters by R82, R84, R87 and R88 and that the table of R192 does not list: an operation that
ends the echo wait, with a POLL (log 9). -/
def OrderUnlisted (s : State) (i j : Instr) : Prop :=
  ((∃ a b, i = .capDone a b) ∧ j = .poll ∧ s.rng.cstate = .awaitingEcho) ∨
  (i = .ctOvf ∧ j = .poll ∧ s.rng.cstate = .awaitingEcho ∧ s.params.distMaxOverflow ≤ s.rng.ovf.toNat + 1)

/-- The order of two operations matters in this state, whichever is named first. -/
def OrderSensitive (s : State) (i j : Instr) : Prop :=
  OrderListed s i j ∨ OrderListed s j i ∨ OrderUnlisted s i j ∨ OrderUnlisted s j i

end Sys2Proof.Machine
end

