-- ==== Sys2Proof/Certificates/Slice0/Obligations.lean ====
section
/-! DEFINITION. The statements about the model. A stated one formalises the rule of spec/ it names; `s.params` is the
configuration of the run, over which every statement quantifies with the state. -/

open Sys2Proof Sys2Proof.Machine

/-! ## Encoding -/

/-- Decoding the word of a well-formed operation gives it back, at every operand value (30_encoding.md R65, R75). -/
def Obligations.DecodeOfEncodeIsIdentity : Prop :=
  ∀ i : Instr, i.WellFormed = true → decode (encode i) = .operation i

/-- Encoding what a word decodes to gives that word with its reserved bits cleared (R65, R71). -/
def Obligations.EncodeOfDecodeClearsReservedBits : Prop :=
  ∀ (w : OpWord) (i : Instr), decode w = .operation i → encode i = w &&& usedBits (w.extractLsb' 0 4)

/-- R71: two words that differ only in reserved bits are the same operation with the same effect. -/
def Obligations.ReservedBitsAreIgnored : Prop :=
  ∀ w w' : OpWord, w.extractLsb' 0 4 = w'.extractLsb' 0 4 →
    w &&& usedBits (w.extractLsb' 0 4) = w' &&& usedBits (w.extractLsb' 0 4) →
    (∀ i, decode w = .operation i → decode w' = .operation i) ∧
    ∀ (s : State) (rest : List OpWord), step (s.setOps (w :: rest)) = step (s.setOps (w' :: rest))

/-- An inference of the spec (R75, from R65 to R72): decode is total, and selects the operation by OP alone and its operands by
their fields. -/
def Obligations.DecodeFollowsTheOperationTable : Prop :=
  ∀ w : OpWord,
    (w.extractLsb' 0 4 = 0x0 → decode w = .operation .idle) ∧
    (w.extractLsb' 0 4 = 0x1 → decode w = .operation .ctCmp) ∧
    (w.extractLsb' 0 4 = 0x2 → decode w = .operation .ctOvf) ∧
    (w.extractLsb' 0 4 = 0x3 → decode w = .operation (.capDone (w.extractLsb' 32 16) (w.extractLsb' 48 16))) ∧
    (w.extractLsb' 0 4 = 0x4 → decode w = .operation .poll) ∧
    (w.extractLsb' 0 4 = 0x5 → ∃ sto, decode w = .operation (.btOvf sto) ∧ storageCode sto = w.extractLsb' 16 2) ∧
    (w.extractLsb' 0 4 = 0x6 → decode w = .operation .pwmBnd) ∧
    (w.extractLsb' 0 4 = 0x7 → decode w = .operation .btnA) ∧
    (w.extractLsb' 0 4 = 0x8 → decode w = .operation .btnB) ∧
    (w.extractLsb' 0 4 = 0x9 → decode w = .operation (.regRd (w.extractLsb' 8 6))) ∧
    (w.extractLsb' 0 4 = 0xA → decode w = .operation (.regWr (w.extractLsb' 8 6) (w.extractLsb' 32 32))) ∧
    (w.extractLsb' 0 4 = 0xF → decode w = .operation .reset) ∧
    (0xB ≤ (w.extractLsb' 0 4).toNat ∧ (w.extractLsb' 0 4).toNat ≤ 0xE → decode w = .reserved (w.extractLsb' 0 4))

/-- R78: the words the spec writes out, each decoded, and each the encoding of its operation. -/
def Obligations.WordsWrittenOutInTheSpec : Prop :=
  ∀ p ∈ [((0x0000000000000000 : OpWord), Instr.idle), (0x0000000000000001, .ctCmp), (0x0000000000000002, .ctOvf),
      (0x0000000000000004, .poll), (0x0000000000000005, .btOvf .ok), (0x0000000000010005, .btOvf .openFail),
      (0x0000000000020005, .btOvf .writeFail), (0x0000000000030005, .btOvf .closeFail),
      (0x0000000000000006, .pwmBnd), (0x0000000000000007, .btnA), (0x0000000000000008, .btnB),
      (0x000000000000000F, .reset), (0x087003E800000003, .capDone 1000 2160), (0x0000000000000109, .regRd 0x01),
      (0x000000960000080A, .regWr 0x08 150), (0xFFFFFF9C0000090A, .regWr 0x09 0xFFFFFF9C)],
    decode p.1 = .operation p.2 ∧ encode p.2 = p.1

/-! ## The step -/

/-- With an accepted configuration, where the first presented word decodes to an operation, the step is that operation's
meaning (00_scope.md R15, R16), with the word taken from those still to come. That the presented words stand in a list of which
a step takes the first is THE MODEL'S CHOICE (log 2). -/
def Obligations.StepRunsTheDecodedOperation : Prop :=
  ∀ (s : State) (c : Config) (w : OpWord) (rest : List OpWord) (i : Instr),
    s.setup = .accepted c → s.ops = w :: rest → decode w = .operation i → step s = exec i { s with ops := rest }

/-- THE MODEL'S CHOICE (log 2): an agent that presents one more word of the opcode table, before those still to come, has
the very next step run the instruction the decoder reads from it. -/
def Obligations.PresentedTableWordRunsNext : Prop :=
  ∀ (s : State) (c : Config) (nbits w : Nat) (i : Instr),
    s.setup = .accepted c → decodeTableWord nbits w = some i → step (s.withFetchWord nbits w) = exec i s

/-- R72: a word with OP 0xB to 0xE is refused, and so is the whole run from there: no state follows. -/
def Obligations.ReservedWordIsRefusedForGood : Prop :=
  ∀ (s : State) (c : Config) (w : OpWord) (rest : List OpWord),
    s.setup = .accepted c → s.ops = w :: rest →
    0xB ≤ (w.extractLsb' 0 4).toNat → (w.extractLsb' 0 4).toNat ≤ 0xE →
    step s = .refused (.reservedOperation (w.extractLsb' 0 4)) ∧
    ∀ n : Nat, Host.Core.run Sys2Proof.core (n + 1) s = .refused (.reservedOperation (w.extractLsb' 0 4))

/-- R7 with the constraint of R8, an inference of the spec: a configuration that breaks a constraint is refused, and one that
keeps them all is accepted as it is. That every step is refused, whatever is presented, is THE MODEL'S READING (log 4); a negative
BASE or SPAN cannot be written down (log 13). -/
def Obligations.BrokenConfigurationIsRefused : Prop :=
  ∀ p : Params,
    (((1 ≤ p.distMax ∧ p.distMax ≤ 999) ∧ (1 ≤ p.distMaxOverflow ∧ p.distMaxOverflow ≤ 255) ∧
        (1 ≤ p.timerPeriod ∧ p.timerPeriod ≤ 65536) ∧ (1 ≤ p.ticksPerUnit ∧ p.ticksPerUnit ≤ 65535) ∧
        (9 ≤ p.filterDelta ∧ p.filterDelta ≤ 121) ∧ p.tiltDuty ≤ 65535 ∧
        p.steer.base + 2 * p.steer.span ≤ 65535 ∧ p.speed.base + 2 * p.speed.span ≤ 65535 ∧
        p.pan.base + 2 * p.pan.span ≤ 65535) →
      ∃ c : Config, p.check = .accepted c ∧ c.params = p) ∧
    (¬ ((1 ≤ p.distMax ∧ p.distMax ≤ 999) ∧ (1 ≤ p.distMaxOverflow ∧ p.distMaxOverflow ≤ 255) ∧
        (1 ≤ p.timerPeriod ∧ p.timerPeriod ≤ 65536) ∧ (1 ≤ p.ticksPerUnit ∧ p.ticksPerUnit ≤ 65535) ∧
        (9 ≤ p.filterDelta ∧ p.filterDelta ≤ 121) ∧ p.tiltDuty ≤ 65535 ∧
        p.steer.base + 2 * p.steer.span ≤ 65535 ∧ p.speed.base + 2 * p.speed.span ≤ 65535 ∧
        p.pan.base + 2 * p.pan.span ≤ 65535) →
      ∀ s : State, s.setup = p.check → step s = .refused .configRefused)

/-- THE MODEL'S CHOICE (log 3): with no operation presented the block holds its state. -/
def Obligations.BlockWaitsWithNothingPresented : Prop :=
  ∀ (s : State) (c : Config), s.setup = .accepted c → s.ops = [] → step s = .next s

/-! ## Reset -/

/-- R210: RESET gives every element its reset value, keeps the trace and emits nothing. -/
def Obligations.ResetRestoresEveryElement : Prop :=
  ∀ (s : State) (c : Config), s.setup = .accepted c →
    ∃ t : State, exec .reset s = .next t ∧
      t.rng = { cstate := .awaitingTrigger, trig := false, ovf := 0, cap1 := 0, cap2 := 0, timeout := false,
                raw0 := 0, raw1 := 0, raw2 := 0, fdist := 0 } ∧
      t.act.tgt0 = 0 ∧ t.act.tgt1 = 0 ∧ t.act.tgt2 = 0 ∧ t.act.acyc = 0 ∧
      t.act.shd0.toNat = c.params.steer.base + c.params.steer.span ∧ t.act.act0 = t.act.shd0 ∧
      t.act.shd1.toNat = c.params.speed.base + c.params.speed.span ∧ t.act.act1 = t.act.shd1 ∧
      t.act.shd2.toNat = c.params.pan.base + c.params.pan.span ∧ t.act.act2 = t.act.shd2 ∧
      t.act.shd3.toNat = c.params.tiltDuty ∧ t.act.act3 = t.act.shd3 ∧ t.act.applyPending = false ∧
      t.mode = { mode := .none, armed := false, led := 0b000 } ∧
      t.tlm = { tcyc := 0, healthy := true } ∧
      t.trace = s.trace ∧ t.setup = s.setup ∧ t.ops = s.ops

/-- R211, R21: the state at power-on is the one RESET gives, with an empty trace; resetting it changes nothing. -/
def Obligations.PowerOnIsTheResetState : Prop :=
  ∀ setup : Setup,
    (State.resetWith setup).trace = [] ∧
    exec .reset (State.resetWith setup) = .next (State.resetWith setup) ∧
    ∀ s : State, s.setup = setup →
      exec .reset s = .next { State.resetWith setup with trace := s.trace, ops := s.ops }

/-- The invariant holds right after reset, under the block's own configuration. -/
def Obligations.InvariantHoldsAtReset : Prop :=
  LegalState State.reset

/-- Every step keeps the invariant: the legal values of 10_state.md R21, R24, R25, R28, R30, R41, the duty bands and the
tilt duty of 42_actuation.md R120, R121, R123, and the indicators of 43_mode.md R139. -/
def Obligations.EveryStepKeepsTheInvariant : Prop :=
  ∀ s t : State, LegalState s → step s = .next t → LegalState t

/-- No run from a safe state ever stops, however long: no operation faults, and nothing is refused unless the configuration
or a presented word is (00_scope.md R16, 60_exceptions.md R185). That a run goes on when nothing more is presented, a step then
holding the state, is THE MODEL'S READING (log 3). -/
def Obligations.SafeRunsNeverStop : Prop :=
  ∀ (s : State) (n : Nat), SafeState s → ∃ t : State, Host.Core.run Sys2Proof.core n s = .next t ∧ SafeState t

/-! ## RNG -/

/-- R81: CT_CMP. -/
def Obligations.CtCmpAssertsTheTrigger : Prop :=
  ∀ s : State,
    (s.rng.cstate = .awaitingTrigger ∧ s.rng.trig = false →
      exec .ctCmp s = .next { s with rng := { s.rng with trig := true } }) ∧
    (¬ (s.rng.cstate = .awaitingTrigger ∧ s.rng.trig = false) → exec .ctCmp s = .next s)

/-- R82: CT_OVF, state by state; in a legal state the new OVF is OVF + 1 and never exceeds DIST_MAX_OVERFLOW. -/
def Obligations.CtOvfTransitions : Prop :=
  ∀ (s : State) (c : Config), s.setup = .accepted c → LegalState s →
    (s.rng.cstate = .awaitingTrigger → s.rng.trig = true →
      exec .ctOvf s = .next { s with rng := { s.rng with trig := false, cstate := .awaitingEcho, ovf := 0 } }) ∧
    (s.rng.cstate = .awaitingTrigger → s.rng.trig = false → exec .ctOvf s = .next s) ∧
    (s.rng.cstate = .awaitingEcho → ∃ n : BitVec 8,
      n.toNat = s.rng.ovf.toNat + 1 ∧ n.toNat ≤ c.params.distMaxOverflow ∧
      (n.toNat < c.params.distMaxOverflow →
        exec .ctOvf s = .next { s with rng := { s.rng with ovf := n } }) ∧
      (n.toNat ≥ c.params.distMaxOverflow →
        exec .ctOvf s =
          .next { s with rng := { s.rng with ovf := n, cstate := .readyToProcess, timeout := true } })) ∧
    (s.rng.cstate = .readyToProcess → exec .ctOvf s = .next s)

/-- R84: CAP_DONE. -/
def Obligations.CapDoneLatchesBothTimestamps : Prop :=
  ∀ (s : State) (rise fall : Half),
    (s.rng.cstate = .awaitingEcho →
      exec (.capDone rise fall) s =
        .next { s with rng := { s.rng with
          cap1 := rise, cap2 := fall, timeout := false, cstate := .readyToProcess } }) ∧
    (s.rng.cstate ≠ .awaitingEcho → exec (.capDone rise fall) s = .next s)

/-- R88 with the sample of R103 and the filter of R105: POLL in READY, and POLL in any other state. -/
def Obligations.PollProcessesTheCaptureCycle : Prop :=
  ∀ (s : State) (c : Config), s.setup = .accepted c →
    (s.rng.cstate = .readyToProcess → ∃ d : Half,
      (d.toNat : Int) =
        (if s.rng.timeout = true then (c.params.distMax : Int)
        else max 0 (min (c.params.distMax : Int)
          (Int.fdiv (((s.rng.cap2.toNat : Int) - s.rng.cap1.toNat) + s.rng.ovf.toNat * c.params.timerPeriod)
            c.params.ticksPerUnit))) ∧
      exec .poll s =
        .next { s with rng := { s.rng with
          raw2 := s.rng.raw1, raw1 := s.rng.raw0, raw0 := d,
          fdist := if |(s.rng.raw0.toNat : Int) - s.rng.raw1.toNat| > c.params.filterDelta then d else s.rng.raw0,
          cstate := .awaitingTrigger, ovf := 0 } }) ∧
    (s.rng.cstate ≠ .readyToProcess → exec .poll s = .next s)

/-- R87: POLL in any other state changes nothing and emits nothing. -/
def Obligations.PollIgnoredUnlessReady : Prop :=
  ∀ s : State, s.rng.cstate ≠ .readyToProcess → exec .poll s = .next s

/-- R109: the source's three filter examples hold exactly when 9 <= FILTER_DELTA <= 121. -/
def Obligations.FilterExamplesHoldExactlyInTheRange : Prop :=
  ∀ delta : Nat,
    (spikeFilter delta 18 19 26 = 19 ∧ spikeFilter delta 150 28 19 = 28 ∧ spikeFilter delta 8 150 28 = 8) ↔
      (9 ≤ delta ∧ delta ≤ 121)

/-- R108: from a ring full of a, two samples b give FDIST a, then b; a single sample x followed by a gives a, then a when x
deviates by more than the delta and x when it does not. The second POLL may come from any later state whose ring the first
left. -/
def Obligations.StepAndSpikeResponse : Prop :=
  ∀ (s u s' u' : State) (c : Config) (a : Half),
    s.setup = .accepted c → s'.setup = .accepted c →
    s.rng.cstate = .readyToProcess → s'.rng.cstate = .readyToProcess →
    s.rng.raw0 = a → s.rng.raw1 = a → s.rng.raw2 = a →
    exec .poll s = .next u →
    s'.rng.raw0 = u.rng.raw0 → s'.rng.raw1 = u.rng.raw1 → s'.rng.raw2 = u.rng.raw2 →
    exec .poll s' = .next u' →
    u.rng.fdist = a ∧
    (u'.rng.raw0 = u.rng.raw0 → u'.rng.fdist = u.rng.raw0) ∧
    (u'.rng.raw0 = a → |(u.rng.raw0.toNat : Int) - a.toNat| > c.params.filterDelta → u'.rng.fdist = a) ∧
    (u'.rng.raw0 = a → |(u.rng.raw0.toNat : Int) - a.toNat| ≤ c.params.filterDelta → u'.rng.fdist = u.rng.raw0)

/-- R23: CSTATE cycles 0, 1, 2, 0 and takes no other transition except to 0 by RESET. -/
def Obligations.CaptureStateIsStrictlyCyclic : Prop :=
  ∀ (i : Instr) (s t : State), exec i s = .next t →
    t.rng.cstate = s.rng.cstate ∨
    (s.rng.cstate = .awaitingTrigger ∧ t.rng.cstate = .awaitingEcho) ∨
    (s.rng.cstate = .awaitingEcho ∧ t.rng.cstate = .readyToProcess) ∨
    (s.rng.cstate = .readyToProcess ∧ t.rng.cstate = .awaitingTrigger) ∨
    (i = .reset ∧ t.rng.cstate = .awaitingTrigger)

/-- R83, R90: under CT_OVF alone an echo wait counts up one by one, stays in AWAITING_ECHO below the budget, and ends by
timeout exactly when the budget is reached. -/
def Obligations.EchoWaitEndsAtTheBudget : Prop :=
  ∀ (s : State) (c : Config) (k : Nat), s.setup = .accepted c → LegalState s → s.rng.cstate = .awaitingEcho →
    ∃ t : State, execAll (List.replicate k .ctOvf) s = .next t ∧
      (s.rng.ovf.toNat + k < c.params.distMaxOverflow →
        t.rng.cstate = .awaitingEcho ∧ t.rng.ovf.toNat = s.rng.ovf.toNat + k) ∧
      (c.params.distMaxOverflow ≤ s.rng.ovf.toNat + k →
        t.rng.cstate = .readyToProcess ∧ t.rng.timeout = true ∧ t.rng.ovf.toNat = c.params.distMaxOverflow)

/-- R60, R89, R215: while READY waits for its POLL, no sequence of other operations (RESET apart) changes any element of
RNG. -/
def Obligations.ReadyWaitsForItsPoll : Prop :=
  ∀ (is : List Instr) (s : State), s.rng.cstate = .readyToProcess → (∀ i ∈ is, i ≠ .poll ∧ i ≠ .reset) →
    ∃ t : State, execAll is s = .next t ∧ t.rng = s.rng

/-! ## ACT -/

/-- R119 with R117 and the mapping of R118: the actuation part of BT_OVF, each channel with its own band and the bounds 300, 1000
and 900 of R6 and R36, and what BT_OVF leaves unchanged besides. -/
def Obligations.BtOvfActuationPart : Prop :=
  ∀ (s : State) (c : Config) (sto : StorageAnswer), s.setup = .accepted c →
    ∃ t : State, exec (.btOvf sto) s = .next t ∧
      (s.act.acyc = 1 →
        t.act.acyc = 0 ∧ t.act.applyPending = true ∧
        (t.act.shd0.toNat : Int) = c.params.steer.base +
          Int.fdiv (c.params.steer.span * (max (-300) (min 300 s.act.tgt0.toInt) + 300)) 300 ∧
        (t.act.shd1.toNat : Int) = c.params.speed.base +
          Int.fdiv (c.params.speed.span * (max (-1000) (min 1000 s.act.tgt1.toInt) + 1000)) 1000 ∧
        (t.act.shd2.toNat : Int) = c.params.pan.base +
          Int.fdiv (c.params.pan.span * (max (-900) (min 900 s.act.tgt2.toInt) + 900)) 900) ∧
      (s.act.acyc = 0 →
        t.act.acyc = 1 ∧ t.act.applyPending = s.act.applyPending ∧ ∀ ch, shadowOf t.act ch = shadowOf s.act ch) ∧
      (∀ ch, targetOf t.act ch = targetOf s.act ch ∧ activeOf t.act ch = activeOf s.act ch) ∧
      t.act.shd3 = s.act.shd3 ∧ t.act.act3 = s.act.act3 ∧
      t.rng = s.rng ∧ t.mode = s.mode ∧ t.setup = s.setup ∧ t.ops = s.ops

/-- R118: the mapping law on clamped targets with the calibration of each channel (R6, R36), and where the centre and the two
edges map. The range, and that it fits 16 bits in a valid configuration, is the spec's inference (R118, R121). -/
def Obligations.DutyLawOnTheBand : Prop :=
  ∀ p : Params,
    calibration p .steering = { minDuty := p.steer.base, spanDuty := p.steer.span, clampMagnitude := 300 } ∧
    calibration p .driveSpeed = { minDuty := p.speed.base, spanDuty := p.speed.span, clampMagnitude := 1000 } ∧
    calibration p .cameraPan = { minDuty := p.pan.base, spanDuty := p.pan.span, clampMagnitude := 900 } ∧
    ∀ ch : Channel,
      let cal := calibration p ch
      (∀ t : Int, -(cal.clampMagnitude : Int) ≤ t → t ≤ cal.clampMagnitude →
        duty cal t = cal.minDuty + Int.fdiv (cal.spanDuty * (t + cal.clampMagnitude)) cal.clampMagnitude ∧
        (cal.minDuty : Int) ≤ duty cal t ∧ duty cal t ≤ cal.minDuty + 2 * cal.spanDuty ∧
        (p.Valid → duty cal t ≤ 65535)) ∧
      duty cal 0 = cal.minDuty + cal.spanDuty ∧
      duty cal (-(cal.clampMagnitude : Int)) = cal.minDuty ∧
      duty cal cal.clampMagnitude = cal.minDuty + 2 * cal.spanDuty

/-- R128: the duty is non-decreasing in the clamped target and takes the centre value at 0. -/
def Obligations.DutyIsMonotone : Prop :=
  ∀ (p : Params) (ch : Channel),
    let cal := calibration p ch
    (∀ t t' : Int, -(cal.clampMagnitude : Int) ≤ t → t ≤ t' → t' ≤ cal.clampMagnitude → duty cal t ≤ duty cal t') ∧
    duty cal 0 = cal.minDuty + cal.spanDuty

/-- R122: a target outside its range gives the duty of the nearest bound, and clamping twice is clamping once. -/
def Obligations.ClampIsIdempotent : Prop :=
  ∀ (p : Params) (ch : Channel) (t : Int),
    let cal := calibration p ch
    (t > cal.clampMagnitude → duty cal (clampTarget cal t) = duty cal cal.clampMagnitude) ∧
    (t < -(cal.clampMagnitude : Int) → duty cal (clampTarget cal t) = duty cal (-(cal.clampMagnitude : Int))) ∧
    clampTarget cal (clampTarget cal t) = clampTarget cal t

/-- R123: PWM_BND applies all four duties together, or changes nothing. -/
def Obligations.PwmBoundaryAppliesAllChannels : Prop :=
  ∀ s : State,
    (s.act.applyPending = true →
      exec .pwmBnd s = .next { s with act := { s.act with
        act0 := s.act.shd0, act1 := s.act.shd1, act2 := s.act.shd2, act3 := s.act.shd3, applyPending := false } }) ∧
    (s.act.applyPending = false → exec .pwmBnd s = .next s)

/-- R124, R219: a setpoint written by REG_WR changes no duty itself, and has reached the active duty of its channel, mapped,
after two BT_OVF and one PWM_BND, whatever the sub-sample counter was. -/
def Obligations.SetpointReachesTheOutput : Prop :=
  ∀ (s : State) (c : Config) (ch : Channel) (v : RegWord) (x y : StorageAnswer), s.setup = .accepted c →
    (∃ u : State, exec (.regWr (targetIndex ch) v) s = .next u ∧
      (∀ d, shadowOf u.act d = shadowOf s.act d ∧ activeOf u.act d = activeOf s.act d) ∧
      u.act.shd3 = s.act.shd3 ∧ u.act.act3 = s.act.act3) ∧
    ∃ t : State, execAll [.regWr (targetIndex ch) v, .btOvf x, .btOvf y, .pwmBnd] s = .next t ∧
      ((activeOf t.act ch).toNat : Int) =
        (calibration c.params ch).minDuty +
          Int.fdiv ((calibration c.params ch).spanDuty *
            (max (-((calibration c.params ch).clampMagnitude : Int))
              (min ((calibration c.params ch).clampMagnitude : Int) (v.setWidth 16).toInt) +
            (calibration c.params ch).clampMagnitude)) (calibration c.params ch).clampMagnitude

/-! ## MODE -/

/-- R135: BTN_A. -/
def Obligations.BtnAAdvancesTheMode : Prop :=
  ∀ s : State,
    (s.mode.armed = false → ∃ m : OperatingMode,
      (modeCode m).toNat = ((modeCode s.mode.mode).toNat + 1) % 5 ∧
      exec .btnA s = .next { s with mode := { s.mode with mode := m, led := modeCode m } }) ∧
    (s.mode.armed = true → exec .btnA s = .next s)

/-- R136: BTN_B. -/
def Obligations.BtnBTogglesTheArmLatch : Prop :=
  ∀ s : State,
    (s.mode.armed = false → exec .btnB s = .next { s with mode := { s.mode with armed := true, led := 0b111 } }) ∧
    (s.mode.armed = true →
      exec .btnB s = .next { s with mode := { armed := false, mode := .none, led := 0b000 } })

/-- R140, an inference of the spec: advancing is a bijection of the five modes, of which five advances are the identity and one to
four are not from any mode; no number of advances changes an armed mode, and disarming resets it. -/
def Obligations.ModeCycleProperties : Prop :=
  (∀ m : OperatingMode, ∃! m', nextMode m' = m) ∧
  (∀ s : State, s.mode.armed = false →
    ∃ t : State, execAll (List.replicate 5 .btnA) s = .next t ∧ t.mode.mode = s.mode.mode) ∧
  (∀ (s : State) (k : Nat), s.mode.armed = false → 1 ≤ k → k ≤ 4 →
    ∃ t : State, execAll (List.replicate k .btnA) s = .next t ∧ t.mode.mode ≠ s.mode.mode) ∧
  (∀ (s : State) (n : Nat), s.mode.armed = true → execAll (List.replicate n .btnA) s = .next s) ∧
  (∀ s : State, s.mode.armed = true → ∃ t : State, exec .btnB s = .next t ∧ t.mode.mode = .none)

/-- R142, with the row BTN_A, BTN_B of R192: from ARMED = 0 the two orders of a press of both buttons differ in the mode they arm,
and from ARMED = 1 in the mode they leave. -/
def Obligations.ButtonOrderDecidesTheArmedMode : Prop :=
  ∀ s : State,
    ∃ t u : State, execAll [.btnA, .btnB] s = .next t ∧ execAll [.btnB, .btnA] s = .next u ∧
      (s.mode.armed = false →
        t.mode.armed = true ∧ (modeCode t.mode.mode).toNat = ((modeCode s.mode.mode).toNat + 1) % 5 ∧
        u.mode.armed = true ∧ u.mode.mode = s.mode.mode) ∧
      (s.mode.armed = true →
        t.mode.armed = false ∧ t.mode.mode = .none ∧ u.mode.armed = false ∧ u.mode.mode = .basic)

/-- R220: an even number of edges on button B, at least two, leaves ARMED unchanged and forces MODE to NONE, whatever ARMED
was. -/
def Obligations.EvenBouncesOfButtonBForceNone : Prop :=
  ∀ (s : State) (k : Nat),
    ∃ t : State, execAll (List.replicate (2 * (k + 1)) .btnB) s = .next t ∧
      t.mode.armed = s.mode.armed ∧ t.mode.mode = .none ∧ t.rng = s.rng ∧ t.act = s.act ∧ t.tlm = s.tlm ∧
      t.trace = s.trace

/-! ## TLM -/

/-- R152 with R153 and R155: the telemetry part of BT_OVF. The byte values of the line are ASCII codes that the spec marks as
general knowledge (R153), PRESUMED in log 18. -/
def Obligations.BtOvfTelemetryPart : Prop :=
  ∀ (s : State) (sto : StorageAnswer), s.tlm.tcyc.toNat < 25 →
    ∃ t : State, exec (.btOvf sto) s = .next t ∧
      (s.tlm.tcyc.toNat + 1 = 25 → t.tlm.tcyc = 0 ∧
        (s.tlm.healthy = true →
          (t.tlm.healthy = true ↔ sto = .ok) ∧
          t.trace = s.trace ++ [.tlm [0x64, 0x69, 0x73, 0x74, 0x3A,
            BitVec.ofNat 8 (0x30 + s.rng.fdist.toNat / 100 % 10),
            BitVec.ofNat 8 (0x30 + s.rng.fdist.toNat / 10 % 10),
            BitVec.ofNat 8 (0x30 + s.rng.fdist.toNat % 10), 0x0D, 0x0A] sto]) ∧
        (s.tlm.healthy = false → t.tlm.healthy = false ∧ t.trace = s.trace)) ∧
      (s.tlm.tcyc.toNat + 1 ≠ 25 →
        t.tlm.tcyc.toNat = s.tlm.tcyc.toNat + 1 ∧ t.tlm.healthy = s.tlm.healthy ∧ t.trace = s.trace)

/-- R156, an inference of the spec: a storage failure writes HEALTHY and nothing else. Beside the same BT_OVF with the answer OK, the
two next states differ in HEALTHY and in the answer their record carries only. -/
def Obligations.StorageFailureTouchesOnlyHealthy : Prop :=
  ∀ (s : State) (sto : StorageAnswer),
    ∃ t u : State, exec (.btOvf sto) s = .next t ∧ exec (.btOvf .ok) s = .next u ∧
      t.rng = u.rng ∧ t.act = u.act ∧ t.mode = u.mode ∧ t.tlm.tcyc = u.tlm.tcyc ∧ t.setup = u.setup ∧ t.ops = u.ops ∧
      ((t.trace = s.trace ∧ u.trace = s.trace ∧ t.tlm.healthy = u.tlm.healthy) ∨
        ∃ line, t.trace = s.trace ++ [.tlm line sto] ∧ u.trace = s.trace ++ [.tlm line .ok])

/-- R157: HEALTHY starts at 1, a storage failure sets it to 0, while it is 0 no operation but RESET sets it and none emits a
telemetry line, and RESET sets it. -/
def Obligations.HealthyIsAOneWayLatch : Prop :=
  (∀ setup : Setup, (State.resetWith setup).tlm.healthy = true) ∧
  (∀ (s : State) (sto : StorageAnswer), s.tlm.healthy = true → s.tlm.tcyc.toNat + 1 = 25 → sto ≠ .ok →
    ∃ t : State, exec (.btOvf sto) s = .next t ∧ t.tlm.healthy = false) ∧
  (∀ (i : Instr) (s t : State), s.tlm.healthy = false → i ≠ .reset → exec i s = .next t →
    t.tlm.healthy = false ∧ ∀ line sto, OutRecord.tlm line sto ∈ t.trace → OutRecord.tlm line sto ∈ s.trace) ∧
  (∀ s : State, ∃ t : State, exec .reset s = .next t ∧ t.tlm.healthy = true)

/-- R154, an inference of the spec: for a distance up to 999 the line is "dist:", three ASCII digits that spell the distance, CR
LF. The byte values are ASCII codes that the spec marks as general knowledge (R153), PRESUMED in log 18. -/
def Obligations.StatusLineSpellsTheDistance : Prop :=
  ∀ d : Nat, d ≤ 999 → ∃ h t u : Nat, h ≤ 9 ∧ t ≤ 9 ∧ u ≤ 9 ∧ 100 * h + 10 * t + u = d ∧
    formatLine d = [0x64, 0x69, 0x73, 0x74, 0x3A, BitVec.ofNat 8 (0x30 + h), BitVec.ofNat 8 (0x30 + t),
      BitVec.ofNat 8 (0x30 + u), 0x0D, 0x0A]

/-! ## Host -/

/-- R170: IDLE. -/
def Obligations.IdleChangesNothing : Prop :=
  ∀ s : State, exec .idle s = .next s

/-- R172: REG_RD emits one record with the word at the index and changes no element, for every index. -/
def Obligations.RegRdReturnsTheRegisterWord : Prop :=
  ∀ s : State,
    (∀ i : RegIndex, exec (.regRd i) s = .next { s with trace := s.trace ++ [.rd i (regRead i s)] }) ∧
    (regRead 0x00 s).toNat = s.rng.ovf.toNat * 256 + s.rng.timeout.toNat * 8 + s.rng.trig.toNat * 4 +
      (match s.rng.cstate with | .awaitingTrigger => 0 | .awaitingEcho => 1 | .readyToProcess => 2) ∧
    (regRead 0x01 s).toNat = s.rng.fdist.toNat ∧ (regRead 0x02 s).toNat = s.rng.raw0.toNat ∧
    (regRead 0x03 s).toNat = s.rng.raw1.toNat ∧ (regRead 0x04 s).toNat = s.rng.raw2.toNat ∧
    (regRead 0x05 s).toNat = s.rng.cap1.toNat ∧ (regRead 0x06 s).toNat = s.rng.cap2.toNat ∧
    (regRead 0x08 s).toInt = s.act.tgt0.toInt ∧ (regRead 0x09 s).toInt = s.act.tgt1.toInt ∧
    (regRead 0x0A s).toInt = s.act.tgt2.toInt ∧
    (regRead 0x10 s).toNat = s.act.act0.toNat ∧ (regRead 0x11 s).toNat = s.act.act1.toNat ∧
    (regRead 0x12 s).toNat = s.act.act2.toNat ∧ (regRead 0x13 s).toNat = s.act.act3.toNat ∧
    (regRead 0x14 s).toNat = s.act.shd0.toNat ∧ (regRead 0x15 s).toNat = s.act.shd1.toNat ∧
    (regRead 0x16 s).toNat = s.act.shd2.toNat ∧ (regRead 0x17 s).toNat = s.act.shd3.toNat ∧
    (regRead 0x18 s).toNat = s.act.acyc.toNat * 256 + s.act.applyPending.toNat ∧
    (regRead 0x20 s).toNat = s.mode.led.toNat * 16 + s.mode.armed.toNat * 8 +
      (match s.mode.mode with | .none => 0 | .basic => 1 | .speed => 2 | .accuracy => 3 | .iot => 4) ∧
    (regRead 0x28 s).toNat = s.tlm.tcyc.toNat * 256 + s.tlm.healthy.toNat ∧
    ∀ i : RegIndex,
      i.toNat = 0x07 ∨ (0x0B ≤ i.toNat ∧ i.toNat ≤ 0x0F) ∨ (0x19 ≤ i.toNat ∧ i.toNat ≤ 0x1F) ∨
        (0x21 ≤ i.toNat ∧ i.toNat ≤ 0x27) ∨ 0x29 ≤ i.toNat → regRead i s = 0

/-- R174: REG_WR stores DATA[15:0] in the target at 0x08, 0x09 or 0x0A, and changes nothing at any other index. -/
def Obligations.RegWrWritesTheTargetsOnly : Prop :=
  ∀ (s : State) (v : RegWord),
    exec (.regWr 0x08 v) s = .next { s with act := { s.act with tgt0 := v.extractLsb' 0 16 } } ∧
    exec (.regWr 0x09 v) s = .next { s with act := { s.act with tgt1 := v.extractLsb' 0 16 } } ∧
    exec (.regWr 0x0A v) s = .next { s with act := { s.act with tgt2 := v.extractLsb' 0 16 } } ∧
    ∀ i : RegIndex, i ≠ 0x08 → i ≠ 0x09 → i ≠ 0x0A → exec (.regWr i v) s = .next s

/-- R43, R68: a target written and read back gives the sign extension of DATA[15:0]. -/
def Obligations.TargetReadsBackSignExtended : Prop :=
  ∀ (s : State) (ch : Channel) (v : RegWord),
    ∃ (t : State) (r : RegWord), execAll [.regWr (targetIndex ch) v, .regRd (targetIndex ch)] s = .next t ∧
      r.toInt = (v.extractLsb' 0 16).toInt ∧ t.trace = s.trace ++ [.rd (targetIndex ch) r]

/-- R56: a read has no side effect and reads the same twice, a target write is idempotent, a write to any other index
changes nothing, and a write changes no other register. -/
def Obligations.RegisterAccessHasNoSideEffect : Prop :=
  ∀ (s : State) (i : RegIndex) (v : RegWord),
    (∃ t : State, exec (.regRd i) s = .next t ∧ t.rng = s.rng ∧ t.act = s.act ∧ t.mode = s.mode ∧ t.tlm = s.tlm ∧
      (∀ j, regRead j t = regRead j s)) ∧
    (∃ t : State, exec (.regWr i v) s = .next t ∧ exec (.regWr i v) t = .next t ∧
      (¬ IsTargetIndex i → t = s) ∧ ∀ j : RegIndex, j ≠ i → regRead j t = regRead j s)

/-! ## The whole machine -/

/-- R49: each element has the writers listed and no others. -/
def Obligations.SingleWriterOwnership : Prop :=
  ∀ (e : Element) (i : Instr) (s t : State), exec i s = .next t → ¬ e.WrittenBy i → e.value t = e.value s

/-- R58: the trace only grows, by at most one record at an operation, and only a REG_RD or a telemetry tick with HEALTHY = 1
emits one. -/
def Obligations.TraceIsAppendOnly : Prop :=
  ∀ (i : Instr) (s t : State), exec i s = .next t →
    ∃ rs : List OutRecord, t.trace = s.trace ++ rs ∧ rs.length ≤ 1 ∧
      (rs ≠ [] → (∃ r, i = .regRd r) ∨
        ((∃ sto, i = .btOvf sto) ∧ s.tlm.tcyc.toNat + 1 = 25 ∧ s.tlm.healthy = true))

/-- R213: no step changes the configuration. -/
def Obligations.ConfigurationNeverChanges : Prop :=
  ∀ s t : State, step s = .next t → t.setup = s.setup

/-- R125, R143: MODE and ARMED are read by no other unit. Two states that differ in the MODE unit only go, under any
operation but a host read, to states that differ in it only. -/
def Obligations.ModeIsReadByNoOtherUnit : Prop :=
  ∀ (i : Instr) (s : State) (m : ModeState), (∀ r, i ≠ .regRd r) →
    ∃ t u : State, exec i s = .next t ∧ exec i { s with mode := m } = .next u ∧ { t with mode := u.mode } = u

/-- R127, R151, R225: over any operations without a RESET, ACYC and TCYC count the BT_OVF among them modulo 2 and modulo
25, whatever else is interleaved and whether or not storage is healthy. -/
def Obligations.CountersCountEveryBtOvf : Prop :=
  ∀ (is : List Instr) (s : State), (∀ i ∈ is, i ≠ .reset) → s.tlm.tcyc.toNat < 25 →
    ∃ t : State, execAll is s = .next t ∧
      t.act.acyc.toNat = (s.act.acyc.toNat + is.countP isBtOvf) % 2 ∧
      t.tlm.tcyc.toNat = (s.tlm.tcyc.toNat + is.countP isBtOvf) % 25

/-- R192, completed by the two pairs it misses (log 9): in a legal state, two different operations whose order is not listed
as mattering there commute, in state and in trace. -/
def Obligations.UnlistedPairsCommute : Prop :=
  ∀ (i j : Instr) (s : State), LegalState s → i ≠ j → ¬ OrderSensitive s i j →
    ∃ t : State, execAll [i, j] s = .next t ∧ execAll [j, i] s = .next t

/-- R84, R87, R88 (log 9): in AWAITING_ECHO the order of a CAP_DONE and a POLL matters, which the table of R192 does not
list: one order consumes the echo, the other leaves it waiting. -/
def Obligations.CapDonePollOrderMatters : Prop :=
  ∀ (s : State) (rise fall : Half), s.rng.cstate = .awaitingEcho →
    ∃ t u : State, execAll [.capDone rise fall, .poll] s = .next t ∧ execAll [.poll, .capDone rise fall] s = .next u ∧
      t.rng.cstate = .awaitingTrigger ∧ u.rng.cstate = .readyToProcess

/-- R186, R193: the conditions an operation detects are exactly those its effect shows: E1 where the echo wait ends with TIMEOUT
set; E2, E3 and E4 where a record with that failure is emitted, which are the operations that clear HEALTHY; E5 where an
actuation tick maps a target out of range, to an edge of its band. At most one is not a clamp. -/
def Obligations.AtMostOneErrorCondition : Prop :=
  ∀ (i : Instr) (s : State) (c : Config), s.setup = .accepted c →
    ∃ t : State, exec i s = .next t ∧
      ((detectedErrors i s).filter (fun e => !e.isClamp)).length ≤ 1 ∧
      (.sensorTimeout ∈ detectedErrors i s ↔
        s.rng.cstate = .awaitingEcho ∧ t.rng.cstate = .readyToProcess ∧ t.rng.timeout = true) ∧
      (.storageOpen ∈ detectedErrors i s ↔ ∃ line, t.trace = s.trace ++ [.tlm line .openFail]) ∧
      (.storageWrite ∈ detectedErrors i s ↔ ∃ line, t.trace = s.trace ++ [.tlm line .writeFail]) ∧
      (.storageClose ∈ detectedErrors i s ↔ ∃ line, t.trace = s.trace ++ [.tlm line .closeFail]) ∧
      (.storageOpen ∈ detectedErrors i s ∨ .storageWrite ∈ detectedErrors i s ∨ .storageClose ∈ detectedErrors i s ↔
        s.tlm.healthy = true ∧ t.tlm.healthy = false) ∧
      ∀ ch,
        (.targetOutOfRange ch ∈ detectedErrors i s ↔
          (∃ sto, i = .btOvf sto) ∧ s.act.acyc = 1 ∧
            ((targetOf s.act ch).toInt < -((calibration c.params ch).clampMagnitude : Int) ∨
              ((calibration c.params ch).clampMagnitude : Int) < (targetOf s.act ch).toInt)) ∧
        (.targetOutOfRange ch ∈ detectedErrors i s →
          (shadowOf t.act ch).toNat = (calibration c.params ch).minDuty ∨
          (shadowOf t.act ch).toNat = (calibration c.params ch).minDuty + 2 * (calibration c.params ch).spanDuty)

/-- R186: what each error condition records, and that the block runs on: E1 sets TIMEOUT and the next POLL samples
DIST_MAX; E2, E3 and E4 clear HEALTHY and leave one record with the line and the answer; E5 alone leaves no record. -/
def Obligations.ErrorConditionsAreRecorded : Prop :=
  ∀ (i : Instr) (s : State) (c : Config), s.setup = .accepted c →
    ∃ t : State, exec i s = .next t ∧
      (.sensorTimeout ∈ detectedErrors i s → t.rng.timeout = true ∧
        ∃ u : State, exec .poll t = .next u ∧ u.rng.raw0.toNat = c.params.distMax) ∧
      (s.tlm.tcyc.toNat + 1 = 25 → s.tlm.healthy = true →
        (i = .btOvf .openFail → .storageOpen ∈ detectedErrors i s ∧ t.tlm.healthy = false ∧
          t.trace = s.trace ++ [.tlm (formatLine s.rng.fdist.toNat) .openFail]) ∧
        (i = .btOvf .writeFail → .storageWrite ∈ detectedErrors i s ∧ t.tlm.healthy = false ∧
          t.trace = s.trace ++ [.tlm (formatLine s.rng.fdist.toNat) .writeFail]) ∧
        (i = .btOvf .closeFail → .storageClose ∈ detectedErrors i s ∧ t.tlm.healthy = false ∧
          t.trace = s.trace ++ [.tlm (formatLine s.rng.fdist.toNat) .closeFail])) ∧
      ((∀ e ∈ detectedErrors i s, e.isClamp = true) → (∀ sto, i = .btOvf sto → ¬ Attempts s.tlm) →
        (∀ r, i ≠ .regRd r) → t.trace = s.trace)

/-! ## Assembly -/

/-- R77: the pseudo-operations and their expansions, with every count, operation and value. The tokens of a line are the model's
(log 14). -/
def Obligations.PseudoOperationsExpand : Prop :=
  assembleLine "TRIGGER" = some [encode .ctCmp, encode .ctOvf] ∧
  assembleLine "TICK" = some [encode (.btOvf .ok)] ∧
  assembleLine "REP 3, BTN_A" = some [encode .btnA, encode .btnA, encode .btnA] ∧
  assembleLine "SETSTEER 150" = some [encode (.regWr 0x08 150)] ∧
  assembleLine "SETSPEED -1" = some [encode (.regWr 0x09 0xFFFFFFFF)] ∧
  assembleLine "SETPAN 2000" = some [encode (.regWr 0x0A 2000)] ∧
  (∀ (n : List Char) (k : Nat) (t : AsmToken) (rest : List AsmToken) (i : Instr),
    asmNumber n = some k → 1 ≤ k → asmSimple (t :: rest) = some [i] →
    asmLine (.word "REP".toList :: .word n :: .comma :: t :: rest) = some (List.replicate k i)) ∧
  ∀ (v : List Char) (d : RegWord), asmData v = some d →
    (asmLine [.word "SETSTEER".toList, .word v] = some [.regWr 0x08 d] ∧
      asmLine [.word "REG_WR".toList, .word "TGT0".toList, .comma, .word v] = some [.regWr 0x08 d]) ∧
    (asmLine [.word "SETSPEED".toList, .word v] = some [.regWr 0x09 d] ∧
      asmLine [.word "REG_WR".toList, .word "TGT1".toList, .comma, .word v] = some [.regWr 0x09 d]) ∧
    (asmLine [.word "SETPAN".toList, .word v] = some [.regWr 0x0A d] ∧
      asmLine [.word "REG_WR".toList, .word "TGT2".toList, .comma, .word v] = some [.regWr 0x0A d])

/-! ## The pairs whose order matters, with the two outcomes of each row of R192 -/

/-- R192, an inference of the spec, its rows within RNG: CT_CMP with CT_OVF, CT_CMP with POLL, CT_OVF with CAP_DONE in either state,
and two CAP_DONE. -/
def Obligations.RangingPairsDependOnTheOrder : Prop :=
  ∀ (s : State) (c : Config), s.setup = .accepted c → LegalState s →
    (s.rng.cstate = .awaitingTrigger → s.rng.trig = false →
      ∃ t u : State, execAll [.ctCmp, .ctOvf] s = .next t ∧ execAll [.ctOvf, .ctCmp] s = .next u ∧
        t.rng.cstate = .awaitingEcho ∧ u.rng.cstate = .awaitingTrigger ∧ u.rng.trig = true) ∧
    (s.rng.cstate = .readyToProcess →
      ∃ t u : State, execAll [.poll, .ctCmp] s = .next t ∧ execAll [.ctCmp, .poll] s = .next u ∧
        t.rng.trig = true ∧ u.rng.trig = false) ∧
    (∀ rise fall, s.rng.cstate = .awaitingTrigger → s.rng.trig = true →
      ∃ t u : State, execAll [.ctOvf, .capDone rise fall] s = .next t ∧ execAll [.capDone rise fall, .ctOvf] s = .next u ∧
        t.rng.cstate = .readyToProcess ∧ t.rng.cap1 = rise ∧ t.rng.cap2 = fall ∧
        u.rng.cstate = .awaitingEcho ∧ u.rng.cap1 = s.rng.cap1 ∧ u.rng.cap2 = s.rng.cap2) ∧
    (∀ rise fall, s.rng.cstate = .awaitingEcho →
      ∃ t u : State, execAll [.ctOvf, .capDone rise fall] s = .next t ∧ execAll [.capDone rise fall, .ctOvf] s = .next u ∧
        (s.rng.ovf.toNat + 1 < c.params.distMaxOverflow →
          t.rng.timeout = false ∧ t.rng.ovf.toNat = s.rng.ovf.toNat + 1) ∧
        (c.params.distMaxOverflow ≤ s.rng.ovf.toNat + 1 → t.rng.timeout = true) ∧
        t.rng.cstate = .readyToProcess ∧ u.rng.cstate = .readyToProcess ∧ u.rng.timeout = false ∧ u.rng.ovf = s.rng.ovf) ∧
    (∀ rise fall rise' fall', s.rng.cstate = .awaitingEcho →
      ∃ t u : State, execAll [.capDone rise fall, .capDone rise' fall'] s = .next t ∧
        execAll [.capDone rise' fall', .capDone rise fall] s = .next u ∧
        t.rng.cap1 = rise ∧ t.rng.cap2 = fall ∧ u.rng.cap1 = rise' ∧ u.rng.cap2 = fall')

/-- R192, an inference of the spec, its rows with BT_OVF: POLL and BT_OVF, REG_WR of a target and BT_OVF, BT_OVF and PWM_BND, and two
BT_OVF with different answers. -/
def Obligations.TickPairsDependOnTheOrder : Prop :=
  ∀ (s : State) (c : Config), s.setup = .accepted c →
    (∀ sto, s.rng.cstate = .readyToProcess → s.tlm.tcyc.toNat + 1 = 25 → s.tlm.healthy = true →
      ∃ t u v : State, exec .poll s = .next v ∧
        execAll [.poll, .btOvf sto] s = .next t ∧ execAll [.btOvf sto, .poll] s = .next u ∧
        t.trace = s.trace ++ [.tlm (formatLine v.rng.fdist.toNat) sto] ∧
        u.trace = s.trace ++ [.tlm (formatLine s.rng.fdist.toNat) sto]) ∧
    (∀ ch v sto, s.act.acyc = 1 →
      ∃ t u : State, execAll [.regWr (targetIndex ch) v, .btOvf sto] s = .next t ∧
        execAll [.btOvf sto, .regWr (targetIndex ch) v] s = .next u ∧
        shadowOf t.act ch = mappedDuty (calibration c.params ch) (v.extractLsb' 0 16) ∧
        shadowOf u.act ch = mappedDuty (calibration c.params ch) (targetOf s.act ch)) ∧
    (∀ sto, s.act.acyc = 1 →
      ∃ t u : State, execAll [.btOvf sto, .pwmBnd] s = .next t ∧ execAll [.pwmBnd, .btOvf sto] s = .next u ∧
        t.act.applyPending = false ∧ u.act.applyPending = true ∧
        ∀ ch, activeOf t.act ch = mappedDuty (calibration c.params ch) (targetOf s.act ch) ∧
          activeOf u.act ch = if s.act.applyPending = true then shadowOf s.act ch else activeOf s.act ch) ∧
    (∀ x y, s.tlm.healthy = true →
      ∃ t u : State, execAll [.btOvf x, .btOvf y] s = .next t ∧ execAll [.btOvf y, .btOvf x] s = .next u ∧
        (s.tlm.tcyc.toNat + 1 = 25 →
          t.trace = s.trace ++ [.tlm (formatLine s.rng.fdist.toNat) x] ∧
          u.trace = s.trace ++ [.tlm (formatLine s.rng.fdist.toNat) y]) ∧
        (s.tlm.tcyc.toNat + 2 = 25 →
          t.trace = s.trace ++ [.tlm (formatLine s.rng.fdist.toNat) y] ∧
          u.trace = s.trace ++ [.tlm (formatLine s.rng.fdist.toNat) x]))

/-- R192, an inference of the spec, its rows with the host and RESET: a read sees the value before or after the other operation and
the two records stand in the order of the operations; of two writes to one target the later is kept; RESET discards
what the other operation did before it and nothing of what it does after it. -/
def Obligations.HostAndResetPairsDependOnTheOrder : Prop :=
  ∀ s : State,
    (∀ (r : RegIndex) (j : Instr) (t : State), exec j s = .next t →
      ∃ (a : State) (rs : List OutRecord), t.trace = s.trace ++ rs ∧
        execAll [.regRd r, j] s = .next a ∧ a.trace = s.trace ++ .rd r (regRead r s) :: rs ∧
        execAll [j, .regRd r] s = .next { t with trace := s.trace ++ rs ++ [.rd r (regRead r t)] }) ∧
    (∀ ch v v', ∃ t u : State,
      execAll [.regWr (targetIndex ch) v, .regWr (targetIndex ch) v'] s = .next t ∧
      execAll [.regWr (targetIndex ch) v', .regWr (targetIndex ch) v] s = .next u ∧
      targetOf t.act ch = v'.extractLsb' 0 16 ∧ targetOf u.act ch = v.extractLsb' 0 16) ∧
    (∀ (j : Instr) (t : State), exec j s = .next t →
      ∃ u w : State, exec .reset s = .next u ∧ exec j u = .next w ∧ execAll [.reset, j] s = .next w ∧
        execAll [j, .reset] s = .next { u with trace := t.trace } ∧
        (j = .ctCmp ∨ j = .btnA ∨ j = .btnB ∨ (∃ sto, j = .btOvf sto) → w ≠ { u with trace := t.trace }))

/-- R82, R87, R88 (log 9): in AWAITING_ECHO, one overflow before the budget, the order of a CT_OVF and a POLL matters, which the
table of R192 does not list: one order processes the timeout, the other leaves it waiting. -/
def Obligations.CtOvfPollOrderMattersAtTheBudget : Prop :=
  ∀ (s : State) (c : Config), s.setup = .accepted c → s.rng.cstate = .awaitingEcho →
    c.params.distMaxOverflow ≤ s.rng.ovf.toNat + 1 →
    ∃ t u : State, execAll [.ctOvf, .poll] s = .next t ∧ execAll [.poll, .ctOvf] s = .next u ∧
      t.rng.cstate = .awaitingTrigger ∧ t.rng.raw0.toNat = c.params.distMax ∧
      u.rng.cstate = .readyToProcess ∧ u.rng.timeout = true ∧ u.rng.raw0 = s.rng.raw0

/-- R210 with R82, R84, R87 and R123 (log 9): RESET commutes, in state and in trace, with CT_OVF, CAP_DONE, POLL and PWM_BND in every
state, although the table of R192 lists RESET with every operation that changes state. -/
def Obligations.ResetAbsorbsSomeListedOperations : Prop :=
  ∀ (s : State) (j : Instr), j = .ctOvf ∨ (∃ rise fall, j = .capDone rise fall) ∨ j = .poll ∨ j = .pwmBnd →
    ∃ t : State, exec .reset s = .next t ∧ execAll [.reset, j] s = .next t ∧ execAll [j, .reset] s = .next t
end

