-- ==== Sys2Proof/Laws/State.lean ====
section
/-! SUPPORT. One lemma for each field of State under each update of Machine/Ops.lean, and for each field of the state after
reset, all true by definition. -/

namespace Sys2Proof.Machine

section
variable (s : State) (r : RngState)

@[simp] theorem State.setRng_setup : (s.setRng r).setup = s.setup := rfl
@[simp] theorem State.setRng_ops : (s.setRng r).ops = s.ops := rfl
@[simp] theorem State.setRng_rng : (s.setRng r).rng = r := rfl
@[simp] theorem State.setRng_act : (s.setRng r).act = s.act := rfl
@[simp] theorem State.setRng_mode : (s.setRng r).mode = s.mode := rfl
@[simp] theorem State.setRng_tlm : (s.setRng r).tlm = s.tlm := rfl
@[simp] theorem State.setRng_trace : (s.setRng r).trace = s.trace := rfl
@[simp] theorem State.setRng_params : (s.setRng r).params = s.params := rfl

end

section
variable (s : State) (a : ActState)

@[simp] theorem State.setAct_setup : (s.setAct a).setup = s.setup := rfl
@[simp] theorem State.setAct_ops : (s.setAct a).ops = s.ops := rfl
@[simp] theorem State.setAct_rng : (s.setAct a).rng = s.rng := rfl
@[simp] theorem State.setAct_act : (s.setAct a).act = a := rfl
@[simp] theorem State.setAct_mode : (s.setAct a).mode = s.mode := rfl
@[simp] theorem State.setAct_tlm : (s.setAct a).tlm = s.tlm := rfl
@[simp] theorem State.setAct_trace : (s.setAct a).trace = s.trace := rfl
@[simp] theorem State.setAct_params : (s.setAct a).params = s.params := rfl

end

section
variable (s : State) (m : ModeState)

@[simp] theorem State.setMode_setup : (s.setMode m).setup = s.setup := rfl
@[simp] theorem State.setMode_ops : (s.setMode m).ops = s.ops := rfl
@[simp] theorem State.setMode_rng : (s.setMode m).rng = s.rng := rfl
@[simp] theorem State.setMode_act : (s.setMode m).act = s.act := rfl
@[simp] theorem State.setMode_mode : (s.setMode m).mode = m := rfl
@[simp] theorem State.setMode_tlm : (s.setMode m).tlm = s.tlm := rfl
@[simp] theorem State.setMode_trace : (s.setMode m).trace = s.trace := rfl
@[simp] theorem State.setMode_params : (s.setMode m).params = s.params := rfl

end

section
variable (s : State) (t : TlmState)

@[simp] theorem State.setTlm_setup : (s.setTlm t).setup = s.setup := rfl
@[simp] theorem State.setTlm_ops : (s.setTlm t).ops = s.ops := rfl
@[simp] theorem State.setTlm_rng : (s.setTlm t).rng = s.rng := rfl
@[simp] theorem State.setTlm_act : (s.setTlm t).act = s.act := rfl
@[simp] theorem State.setTlm_mode : (s.setTlm t).mode = s.mode := rfl
@[simp] theorem State.setTlm_tlm : (s.setTlm t).tlm = t := rfl
@[simp] theorem State.setTlm_trace : (s.setTlm t).trace = s.trace := rfl
@[simp] theorem State.setTlm_params : (s.setTlm t).params = s.params := rfl

end

section
variable (s : State) (rs : List OutRecord)

@[simp] theorem State.emit_setup : (s.emit rs).setup = s.setup := rfl
@[simp] theorem State.emit_ops : (s.emit rs).ops = s.ops := rfl
@[simp] theorem State.emit_rng : (s.emit rs).rng = s.rng := rfl
@[simp] theorem State.emit_act : (s.emit rs).act = s.act := rfl
@[simp] theorem State.emit_mode : (s.emit rs).mode = s.mode := rfl
@[simp] theorem State.emit_tlm : (s.emit rs).tlm = s.tlm := rfl
@[simp] theorem State.emit_trace : (s.emit rs).trace = s.trace ++ rs := rfl
@[simp] theorem State.emit_params : (s.emit rs).params = s.params := rfl

end

section
variable (s : State) (ws : List OpWord)

@[simp] theorem State.setOps_setup : (s.setOps ws).setup = s.setup := rfl
@[simp] theorem State.setOps_ops : (s.setOps ws).ops = ws := rfl
@[simp] theorem State.setOps_rng : (s.setOps ws).rng = s.rng := rfl
@[simp] theorem State.setOps_act : (s.setOps ws).act = s.act := rfl
@[simp] theorem State.setOps_mode : (s.setOps ws).mode = s.mode := rfl
@[simp] theorem State.setOps_tlm : (s.setOps ws).tlm = s.tlm := rfl
@[simp] theorem State.setOps_trace : (s.setOps ws).trace = s.trace := rfl
@[simp] theorem State.setOps_params : (s.setOps ws).params = s.params := rfl

end

section
variable (s : State)

@[simp] theorem State.resetElements_setup : (s.resetElements).setup = s.setup := rfl
@[simp] theorem State.resetElements_ops : (s.resetElements).ops = s.ops := rfl
@[simp] theorem State.resetElements_rng : (s.resetElements).rng = rngReset := rfl
@[simp] theorem State.resetElements_act : (s.resetElements).act = actReset s.params := rfl
@[simp] theorem State.resetElements_mode : (s.resetElements).mode = modeReset := rfl
@[simp] theorem State.resetElements_tlm : (s.resetElements).tlm = tlmReset := rfl
@[simp] theorem State.resetElements_trace : (s.resetElements).trace = s.trace := rfl
@[simp] theorem State.resetElements_params : (s.resetElements).params = s.params := rfl

end

section
variable (setup : Setup)

@[simp] theorem State.resetWith_setup : (State.resetWith setup).setup = setup := rfl
@[simp] theorem State.resetWith_ops : (State.resetWith setup).ops = [] := rfl
@[simp] theorem State.resetWith_rng : (State.resetWith setup).rng = rngReset := rfl
@[simp] theorem State.resetWith_act : (State.resetWith setup).act = actReset setup.params := rfl
@[simp] theorem State.resetWith_mode : (State.resetWith setup).mode = modeReset := rfl
@[simp] theorem State.resetWith_tlm : (State.resetWith setup).tlm = tlmReset := rfl
@[simp] theorem State.resetWith_trace : (State.resetWith setup).trace = [] := rfl
@[simp] theorem State.resetWith_params : (State.resetWith setup).params = setup.params := rfl

end

@[simp] theorem State.reset_eq : State.reset = State.resetWith (.accepted Config.block) := rfl

@[simp] theorem setup_params_accepted (c : Config) : (Setup.accepted c).params = c.params := rfl

@[simp] theorem setup_params_refused (p : Params) (h : ¬ p.Valid) : (Setup.refused p h).params = p := rfl

/-- Two states are equal when their units, traces, configurations and presented words are. -/
theorem State.ext_units (s t : State) (h1 : s.setup = t.setup) (h2 : s.ops = t.ops) (h3 : s.rng = t.rng)
    (h4 : s.act = t.act) (h5 : s.mode = t.mode) (h6 : s.tlm = t.tlm) (h7 : s.trace = t.trace) : s = t := by
  cases s
  cases t
  simp_all

end Sys2Proof.Machine
end

