-- ==== Sys2Proof/Laws/Ops.lean ====
section
/-! SUPPORT. One lemma for each shared operation that says once all it can do; proofs cite these and do not unfold the
operation. -/

namespace Sys2Proof.Machine

/-! ## Configuration -/

/-- The check of a configuration accepts exactly the valid ones. -/
theorem check_accepted_iff (p : Params) : (∃ c, p.check = .accepted c) ↔ p.Valid := by
  unfold Params.check
  split
  · next h => exact ⟨fun _ => h, fun _ => ⟨_, rfl⟩⟩
  · next h => exact ⟨fun ⟨_, e⟩ => (by cases e), fun hv => absurd hv h⟩

/-- The check keeps the parameters it was given. -/
@[simp] theorem check_params (p : Params) : p.check.params = p := by
  unfold Params.check
  split <;> rfl

/-- Under an accepted configuration every constraint of R7 and R8 holds. -/
theorem valid_of_accepted (s : State) (c : Config) (h : s.setup = .accepted c) : s.params.Valid := by
  simp only [State.params, h, setup_params_accepted]
  exact c.valid

/-! ## Integer primitives -/

/-- Where a clamp lands: below, above, or unchanged inside. -/
theorem clamp_cases (v lo hi : Int) :
    (v < lo ∧ clamp v lo hi = lo) ∨ (hi < v ∧ clamp v lo hi = hi) ∨ (lo ≤ v ∧ v ≤ hi ∧ clamp v lo hi = v) := by
  unfold clamp
  split
  · exact .inl ⟨‹_›, rfl⟩
  · split
    · exact .inr (.inl ⟨‹_›, rfl⟩)
    · exact .inr (.inr ⟨by omega, by omega, rfl⟩)

/-- A clamp stays in its interval. -/
theorem clamp_bounds (v lo hi : Int) (h : lo ≤ hi) : lo ≤ clamp v lo hi ∧ clamp v lo hi ≤ hi := by
  rcases clamp_cases v lo hi with ⟨_, e⟩ | ⟨_, e⟩ | ⟨_, _, e⟩ <;> omega

/-- The division of R11 is floor division: it brackets the dividend. -/
theorem floorDiv_bracket (a b : Int) (h : 0 < b) : b * floorDiv a b ≤ a ∧ a < b * floorDiv a b + b := by
  unfold floorDiv
  constructor
  · exact Int.mul_ediv_self_le (by omega)
  · exact Int.lt_mul_ediv_self_add h

/-- Storing an integer that fits 16 bits keeps it. -/
theorem ofInt_toNat_of_fits (v : Int) (h0 : 0 ≤ v) (h1 : v ≤ 65535) : ((BitVec.ofInt 16 v).toNat : Int) = v := by
  rw [BitVec.toNat_ofInt]
  omega

/-! ## The next operation word -/

/-- All that taking the next operation word can answer. -/
theorem takeWord_cases (s : State) :
    ((∃ p h, s.setup = .refused p h) ∧ takeWord s = .badConfig) ∨
    ((∃ c, s.setup = .accepted c) ∧ s.ops = [] ∧ takeWord s = .nothing) ∨
    (∃ c w rest, s.setup = .accepted c ∧ s.ops = w :: rest ∧ takeWord s = .word w (s.setOps rest)) := by
  unfold takeWord
  cases hs : s.setup with
  | refused p h => exact .inl ⟨⟨p, h, rfl⟩, rfl⟩
  | accepted c =>
    cases ho : s.ops with
    | nil => exact .inr (.inl ⟨⟨c, rfl⟩, rfl, rfl⟩)
    | cons w rest => exact .inr (.inr ⟨c, w, rest, rfl, rfl, rfl⟩)

/-! ## The register space -/

/-- The register map read backwards: every register stands at its index. -/
@[simp] theorem registerAt_registerIndex (r : Register) : registerAt (registerIndex r) = some r := by
  cases r <;> decide

/-- The index of a register that the map gives is the index asked for. -/
theorem registerIndex_of_registerAt (i : RegIndex) (r : Register) (h : registerAt i = some r) : registerIndex r = i := by
  revert h
  revert r
  revert i
  decide

/-- A read of a mapped index is its register's contents. -/
theorem regRead_of_registerAt (i : RegIndex) (r : Register) (s : State) (h : registerAt i = some r) :
    regRead i s = registerContents r s := by
  simp [regRead, h]

/-- A read of a reserved index is 0. -/
theorem regRead_reserved (i : RegIndex) (s : State) (h : registerAt i = none) : regRead i s = 0 := by
  simp [regRead, h]

/-- The indices of the targets, and no other index, hold a writable register. -/
theorem registerWritable_iff (i : RegIndex) :
    (∃ r, registerAt i = some r ∧ registerWritable r = true) ↔ IsTargetIndex i := by
  constructor
  · rintro ⟨r, h, hw⟩
    have hi := registerIndex_of_registerAt i r h
    cases r <;> simp_all [registerWritable, registerIndex, IsTargetIndex]
  · rintro (rfl | rfl | rfl)
    · exact ⟨.tgt0, by decide⟩
    · exact ⟨.tgt1, by decide⟩
    · exact ⟨.tgt2, by decide⟩

/-- All that a bus write can do to ACT: it stores one target, or nothing. -/
theorem regWriteAct_cases (i : RegIndex) (v : RegWord) (a : ActState) :
    (i = 0x08 ∧ regWriteAct i v a = { a with tgt0 := v.setWidth 16 }) ∨
    (i = 0x09 ∧ regWriteAct i v a = { a with tgt1 := v.setWidth 16 }) ∨
    (i = 0x0A ∧ regWriteAct i v a = { a with tgt2 := v.setWidth 16 }) ∨
    (¬ IsTargetIndex i ∧ regWriteAct i v a = a) := by
  by_cases h0 : i = 0x08
  · subst h0; exact .inl ⟨rfl, rfl⟩
  by_cases h1 : i = 0x09
  · subst h1; exact .inr (.inl ⟨rfl, rfl⟩)
  by_cases h2 : i = 0x0A
  · subst h2; exact .inr (.inr (.inl ⟨rfl, rfl⟩))
  refine .inr (.inr (.inr ⟨fun h => h.elim h0 (fun h => h.elim h1 h2), ?_⟩))
  have key : ∀ r, registerAt i = some r → r ≠ .tgt0 ∧ r ≠ .tgt1 ∧ r ≠ .tgt2 := by
    intro r hr
    have hi := registerIndex_of_registerAt i r hr
    exact ⟨fun e => h0 (by rw [← hi, e]; rfl), fun e => h1 (by rw [← hi, e]; rfl), fun e => h2 (by rw [← hi, e]; rfl)⟩
  unfold regWriteAct
  split
  · exact absurd rfl (key _ ‹_›).1
  · exact absurd rfl (key _ ‹_›).2.1
  · exact absurd rfl (key _ ‹_›).2.2
  · rfl

/-! ## Sequences of operations -/

@[simp] theorem execAll_nil (s : State) : execAll [] s = .next s := rfl

/-- The first operation of a sequence, when it completes. -/
theorem execAll_cons_of_next (i : Instr) (is : List Instr) (s t : State) (h : exec i s = .next t) :
    execAll (i :: is) s = execAll is t := by
  simp [execAll, h]

/-- A sequence of two parts, when the first completes. -/
theorem execAll_append_of_next (is js : List Instr) (s t : State) (h : execAll is s = .next t) :
    execAll (is ++ js) s = execAll js t := by
  induction is generalizing s with
  | nil => simp_all
  | cons i is ih =>
    simp only [execAll, List.cons_append] at h ⊢
    cases he : exec i s with
    | next u => simp only [he] at h ⊢; exact ih u h
    | fault r => exact nomatch r
    | refused r => simp [he] at h

end Sys2Proof.Machine
end

