-- ==== Sys2Proof/Laws/PerInstr.lean ====
section
/-! SUPPORT. Families of lemmas with one member for each constructor of Instr. -/

namespace Sys2Proof.Laws

/-! ## EncodedOpcode: the code of R66 stands in OP of the encoded word. -/

/-- A field of a number in mixed base: above the low part r below b, below the high part q. -/
theorem mixed_base_field (r b f m q : Nat) (hr : r < b) (hf : f < m) : (r + b * (f + m * q)) / b % m = f := by
  have hb : 0 < b := by omega
  rw [Nat.add_mul_div_left _ _ hb, Nat.div_eq_of_lt hr, Nat.zero_add, Nat.add_mul_mod_self_left, Nat.mod_eq_of_lt hf]

section
variable (data : RegWord) (sto : BitVec 2) (reg : RegIndex) (op : Opcode)

/-- The word value of 30_encoding.md R65. -/
theorem packWord_toNat : (packWord data sto reg op).toNat =
    data.toNat * 2 ^ 32 + sto.toNat * 2 ^ 16 + reg.toNat * 2 ^ 8 + op.toNat := by
  have h1 := data.isLt
  have h2 := sto.isLt
  have h3 := reg.isLt
  have h4 := op.isLt
  rw [packWord, BitVec.toNat_ofNat]
  generalize data.toNat = x at *
  generalize sto.toNat = y at *
  generalize reg.toNat = z at *
  generalize op.toNat = u at *
  exact Nat.mod_eq_of_lt (by omega)

/-- The OP field of a packed word. -/
@[simp] theorem fieldOp_packWord : fieldOp (packWord data sto reg op) = op := by
  apply BitVec.eq_of_toNat_eq
  rw [fieldOp, BitVec.extractLsb'_toNat, packWord_toNat, Nat.shiftRight_eq_div_pow]
  have e : data.toNat * 2 ^ 32 + sto.toNat * 2 ^ 16 + reg.toNat * 2 ^ 8 + op.toNat =
      0 + 2 ^ 0 * (op.toNat + 2 ^ 4 * (reg.toNat * 2 ^ 4 + sto.toNat * 2 ^ 12 + data.toNat * 2 ^ 28)) := by ring
  rw [e]
  exact mixed_base_field _ _ _ _ _ (by decide) op.isLt

/-- The REG field of a packed word. -/
@[simp] theorem fieldReg_packWord : fieldReg (packWord data sto reg op) = reg := by
  apply BitVec.eq_of_toNat_eq
  rw [fieldReg, BitVec.extractLsb'_toNat, packWord_toNat, Nat.shiftRight_eq_div_pow]
  have e : data.toNat * 2 ^ 32 + sto.toNat * 2 ^ 16 + reg.toNat * 2 ^ 8 + op.toNat =
      op.toNat + 2 ^ 8 * (reg.toNat + 2 ^ 6 * (sto.toNat * 2 ^ 2 + data.toNat * 2 ^ 18)) := by ring
  rw [e]
  exact mixed_base_field _ _ _ _ _ (op.isLt.trans_le (by decide)) reg.isLt

/-- The STO field of a packed word. -/
@[simp] theorem fieldSto_packWord : fieldSto (packWord data sto reg op) = sto := by
  apply BitVec.eq_of_toNat_eq
  rw [fieldSto, BitVec.extractLsb'_toNat, packWord_toNat, Nat.shiftRight_eq_div_pow]
  have e : data.toNat * 2 ^ 32 + sto.toNat * 2 ^ 16 + reg.toNat * 2 ^ 8 + op.toNat =
      (reg.toNat * 2 ^ 8 + op.toNat) + 2 ^ 16 * (sto.toNat + 2 ^ 2 * (data.toNat * 2 ^ 14)) := by ring
  rw [e]
  have h3 := reg.isLt
  have h4 := op.isLt
  exact mixed_base_field _ _ _ _ _ (by omega) sto.isLt

/-- The DATA field of a packed word. -/
@[simp] theorem fieldData_packWord : fieldData (packWord data sto reg op) = data := by
  apply BitVec.eq_of_toNat_eq
  rw [fieldData, BitVec.extractLsb'_toNat, packWord_toNat, Nat.shiftRight_eq_div_pow]
  have e : data.toNat * 2 ^ 32 + sto.toNat * 2 ^ 16 + reg.toNat * 2 ^ 8 + op.toNat =
      (sto.toNat * 2 ^ 16 + reg.toNat * 2 ^ 8 + op.toNat) + 2 ^ 32 * (data.toNat + 2 ^ 32 * 0) := by ring
  rw [e]
  have h2 := sto.isLt
  have h3 := reg.isLt
  have h4 := op.isLt
  exact mixed_base_field _ _ _ _ _ (by omega) data.isLt

end

/-- RISE is the low half of DATA (R65). -/
theorem fieldRise_eq (w : OpWord) : fieldRise w = (fieldData w).setWidth 16 := by
  apply BitVec.eq_of_toNat_eq
  rw [fieldRise, fieldData, BitVec.toNat_setWidth, BitVec.extractLsb'_toNat, BitVec.extractLsb'_toNat,
    Nat.mod_mod_of_dvd _ (by decide)]

/-- The low half of the DATA of CAP_DONE is RISE. -/
@[simp] theorem captureData_setWidth (rise fall : Half) : (captureData rise fall).setWidth 16 = rise := by
  apply BitVec.eq_of_toNat_eq
  rw [captureData, BitVec.toNat_setWidth, BitVec.toNat_ofNat, Nat.mod_mod_of_dvd _ (by decide), Nat.mul_add_mod_self_right,
    Nat.mod_eq_of_lt rise.isLt]

/-- The encoded word of an operation carries its operation code (30_encoding.md R66). -/
def EncodedOpcode.Statement (i : Instr) : Prop := fieldOp (encode i) = i.opcode

theorem EncodedOpcode.idle : EncodedOpcode.Statement .idle := fieldOp_packWord _ _ _ _
theorem EncodedOpcode.ctCmp : EncodedOpcode.Statement .ctCmp := fieldOp_packWord _ _ _ _
theorem EncodedOpcode.ctOvf : EncodedOpcode.Statement .ctOvf := fieldOp_packWord _ _ _ _
theorem EncodedOpcode.capDone (rise fall : Half) : EncodedOpcode.Statement (.capDone rise fall) :=
  fieldOp_packWord _ _ _ _
theorem EncodedOpcode.poll : EncodedOpcode.Statement .poll := fieldOp_packWord _ _ _ _
theorem EncodedOpcode.btOvf (sto : StorageAnswer) : EncodedOpcode.Statement (.btOvf sto) := fieldOp_packWord _ _ _ _
theorem EncodedOpcode.pwmBnd : EncodedOpcode.Statement .pwmBnd := fieldOp_packWord _ _ _ _
theorem EncodedOpcode.btnA : EncodedOpcode.Statement .btnA := fieldOp_packWord _ _ _ _
theorem EncodedOpcode.btnB : EncodedOpcode.Statement .btnB := fieldOp_packWord _ _ _ _
theorem EncodedOpcode.regRd (reg : RegIndex) : EncodedOpcode.Statement (.regRd reg) := fieldOp_packWord _ _ _ _
theorem EncodedOpcode.regWr (reg : RegIndex) (data : RegWord) : EncodedOpcode.Statement (.regWr reg data) :=
  fieldOp_packWord _ _ _ _
theorem EncodedOpcode.reset : EncodedOpcode.Statement .reset := fieldOp_packWord _ _ _ _

end Sys2Proof.Laws
end

