-- ==== Sys2Proof/Laws/Registers.lean ====
section
/-! SUPPORT. The status words of the register space as numbers: each is the sum of its fields at their places. -/

namespace Sys2Proof.Machine

/-- RSTAT as a number. -/
theorem rstatWord_toNat (r : RngState) :
    (rstatWord r).toNat =
      r.ovf.toNat * 256 + r.timeout.toNat * 8 + r.trig.toNat * 4 + (captureCode r.cstate).toNat := by
  unfold rstatWord
  generalize r.ovf = o
  generalize r.timeout = t
  generalize r.trig = u
  generalize captureCode r.cstate = c
  cases t <;> cases u <;> revert c <;> revert o <;> decide

/-- PWMSTAT as a number. -/
theorem pwmstatWord_toNat (a : ActState) : (pwmstatWord a).toNat = a.acyc.toNat * 256 + a.applyPending.toNat := by
  unfold pwmstatWord
  generalize a.acyc = o
  generalize a.applyPending = t
  cases t <;> revert o <;> decide

/-- MODESTAT as a number. -/
theorem modestatWord_toNat (m : ModeState) :
    (modestatWord m).toNat = m.led.toNat * 16 + m.armed.toNat * 8 + (modeCode m.mode).toNat := by
  unfold modestatWord
  generalize m.led = l
  generalize m.armed = t
  generalize modeCode m.mode = c
  cases t <;> revert c <;> revert l <;> decide

/-- TLMSTAT as a number. -/
theorem tlmstatWord_toNat (t : TlmState) : (tlmstatWord t).toNat = t.tcyc.toNat * 256 + t.healthy.toNat := by
  unfold tlmstatWord
  generalize t.tcyc = o
  generalize t.healthy = h
  cases h <;> revert o <;> decide

end Sys2Proof.Machine
end

