-- ==== Sys2Proof/Laws/Units.lean ====
section
/-! SUPPORT. For each function of a unit, one lemma that lists all it can do, and the small facts about codes and patterns. -/

namespace Sys2Proof.Machine

/-! ## RNG -/

/-- All that CT_CMP can do to RNG. -/
theorem rngCtCmp_cases (r : RngState) :
    (r.cstate = .awaitingTrigger ∧ r.trig = false ∧ rngCtCmp r = { r with trig := true }) ∨
    (¬ (r.cstate = .awaitingTrigger ∧ r.trig = false) ∧ rngCtCmp r = r) := by
  cases hc : r.cstate <;> cases ht : r.trig <;> simp [rngCtCmp, hc, ht]

/-- All that CT_OVF can do to RNG. -/
theorem rngCtOvf_cases (p : Params) (r : RngState) :
    (r.cstate = .awaitingTrigger ∧ r.trig = true ∧
      rngCtOvf p r = { r with trig := false, cstate := .awaitingEcho, ovf := 0 }) ∨
    (r.cstate = .awaitingEcho ∧ r.ovf.toNat + 1 < p.distMaxOverflow ∧
      rngCtOvf p r = { r with ovf := BitVec.ofNat 8 (r.ovf.toNat + 1) }) ∨
    (r.cstate = .awaitingEcho ∧ p.distMaxOverflow ≤ r.ovf.toNat + 1 ∧
      rngCtOvf p r =
        { r with ovf := BitVec.ofNat 8 (r.ovf.toNat + 1), cstate := .readyToProcess, timeout := true }) ∨
    (((r.cstate = .awaitingTrigger ∧ r.trig = false) ∨ r.cstate = .readyToProcess) ∧ rngCtOvf p r = r) := by
  cases hc : r.cstate
  · cases ht : r.trig <;> simp [rngCtOvf, hc, ht]
  · by_cases hn : p.distMaxOverflow ≤ r.ovf.toNat + 1
    · simp [rngCtOvf, hc, hn]
    · have hn' : r.ovf.toNat + 1 < p.distMaxOverflow := by omega
      simp [rngCtOvf, hc, hn, hn']
  · simp [rngCtOvf, hc]

/-- All that CAP_DONE can do to RNG. -/
theorem rngCapDone_cases (rise fall : Half) (r : RngState) :
    (r.cstate = .awaitingEcho ∧
      rngCapDone rise fall r = { r with cap1 := rise, cap2 := fall, timeout := false, cstate := .readyToProcess }) ∨
    (r.cstate ≠ .awaitingEcho ∧ rngCapDone rise fall r = r) := by
  cases hc : r.cstate <;> simp [rngCapDone, hc]

/-- All that POLL can do to RNG. -/
theorem rngPoll_cases (p : Params) (r : RngState) :
    (r.cstate = .readyToProcess ∧
      rngPoll p r =
        { r with
          raw2 := r.raw1, raw1 := r.raw0, raw0 := BitVec.ofInt 16 (sample p r),
          fdist := spikeFilter p.filterDelta (BitVec.ofInt 16 (sample p r)) r.raw0 r.raw1,
          cstate := .awaitingTrigger, ovf := 0 }) ∨
    (r.cstate ≠ .readyToProcess ∧ rngPoll p r = r) := by
  cases hc : r.cstate <;> simp [rngPoll, hc]

/-- The two outcomes of the filter. -/
theorem spikeFilter_cases (delta : Nat) (r0 r1 r2 : Half) :
    (delta < ((r1.toNat : Int) - r2.toNat).natAbs ∧ spikeFilter delta r0 r1 r2 = r0) ∨
    (((r1.toNat : Int) - r2.toNat).natAbs ≤ delta ∧ spikeFilter delta r0 r1 r2 = r1) := by
  unfold spikeFilter
  split
  · exact .inl ⟨‹_›, rfl⟩
  · exact .inr ⟨by omega, rfl⟩

/-! ## ACT and TLM -/

/-- A 1-bit counter is at ACT_DIV - 1 or at 0. -/
theorem acyc_cases (a : ActState) : (ActuationTick a ∧ a.acyc = 1) ∨ (¬ ActuationTick a ∧ a.acyc = 0) := by
  have h : a.acyc = 0 ∨ a.acyc = 1 := by
    generalize a.acyc = x
    revert x
    decide
  rcases h with h | h <;> simp [ActuationTick, actDiv, h]

/-- The actuation part at an actuation tick. -/
theorem actuationPart_tick (p : Params) (a : ActState) (h : ActuationTick a) :
    actuationPart p a =
      { a with
        acyc := 0, shd0 := mappedDuty (calibration p .steering) a.tgt0,
        shd1 := mappedDuty (calibration p .driveSpeed) a.tgt1,
        shd2 := mappedDuty (calibration p .cameraPan) a.tgt2, applyPending := true } := if_pos h

/-- The actuation part at any other BT_OVF. -/
theorem actuationPart_no_tick (p : Params) (a : ActState) (h : ¬ ActuationTick a) :
    actuationPart p a = { a with acyc := BitVec.ofNat 1 (a.acyc.toNat + 1) } := if_neg h

/-- All that PWM_BND can do to ACT. -/
theorem pwmBoundary_cases (a : ActState) :
    (a.applyPending = true ∧
      pwmBoundary a =
        { a with act0 := a.shd0, act1 := a.shd1, act2 := a.shd2, act3 := a.shd3, applyPending := false }) ∨
    (a.applyPending = false ∧ pwmBoundary a = a) := by
  cases h : a.applyPending <;> simp [pwmBoundary, h]

/-- TLM state at a telemetry tick. -/
theorem telemetryState_tick (sto : StorageAnswer) (t : TlmState) (h : TelemetryTick t) :
    telemetryState sto t = { tcyc := 0, healthy := t.healthy && storageSucceeds sto } := if_pos h

/-- TLM state at any other BT_OVF. -/
theorem telemetryState_no_tick (sto : StorageAnswer) (t : TlmState) (h : ¬ TelemetryTick t) :
    telemetryState sto t = { t with tcyc := BitVec.ofNat 5 (t.tcyc.toNat + 1) } := if_neg h

/-- The one record of an attempt. -/
theorem telemetryRecords_attempt (fdist : Half) (sto : StorageAnswer) (t : TlmState) (h : Attempts t) :
    telemetryRecords fdist sto t = [.tlm (formatLine fdist.toNat) sto] := if_pos h

/-- No attempt, no record. -/
theorem telemetryRecords_no_attempt (fdist : Half) (sto : StorageAnswer) (t : TlmState) (h : ¬ Attempts t) :
    telemetryRecords fdist sto t = [] := if_neg h

section
variable (sto : StorageAnswer) (s : State)

@[simp] theorem telemetryPart_setup : (telemetryPart sto s).setup = s.setup := rfl
@[simp] theorem telemetryPart_ops : (telemetryPart sto s).ops = s.ops := rfl
@[simp] theorem telemetryPart_rng : (telemetryPart sto s).rng = s.rng := rfl
@[simp] theorem telemetryPart_act : (telemetryPart sto s).act = s.act := rfl
@[simp] theorem telemetryPart_mode : (telemetryPart sto s).mode = s.mode := rfl
@[simp] theorem telemetryPart_params : (telemetryPart sto s).params = s.params := rfl
@[simp] theorem telemetryPart_tlm : (telemetryPart sto s).tlm = telemetryState sto s.tlm := rfl
@[simp] theorem telemetryPart_trace :
    (telemetryPart sto s).trace = s.trace ++ telemetryRecords s.rng.fdist sto s.tlm := rfl

end

/-- A status line has LINE_LEN bytes. -/
@[simp] theorem formatLine_length (d : Nat) : (formatLine d).length = lineLen := rfl

/-- Only the answer OK is a success. -/
@[simp] theorem storageSucceeds_iff (sto : StorageAnswer) : storageSucceeds sto = true ↔ sto = .ok := by
  cases sto <;> decide

/-! ## MODE -/

@[simp] theorem nextMode_none : nextMode .none = .basic := rfl
@[simp] theorem nextMode_basic : nextMode .basic = .speed := rfl
@[simp] theorem nextMode_speed : nextMode .speed = .accuracy := rfl
@[simp] theorem nextMode_accuracy : nextMode .accuracy = .iot := rfl
@[simp] theorem nextMode_iot : nextMode .iot = .none := rfl

/-- All that BTN_A can do to MODE. -/
theorem buttonA_cases (m : ModeState) :
    (m.armed = true ∧ buttonA m = m) ∨
    (m.armed = false ∧
      buttonA m = { m with mode := nextMode m.mode, led := indicatorPattern (nextMode m.mode) }) := by
  cases h : m.armed <;> simp [buttonA, h]

/-- All that BTN_B can do to MODE. -/
theorem buttonB_cases (m : ModeState) :
    (m.armed = true ∧ buttonB m = { mode := .none, armed := false, led := 0 }) ∨
    (m.armed = false ∧ buttonB m = { m with armed := true, led := armedPattern }) := by
  cases h : m.armed <;> simp [buttonB, h]

end Sys2Proof.Machine
end

