-- ==== Sys2Proof/Tests/Slice0.lean ====
section
/-! SUPPORT. Tests, each on fixed values: ill-formed terms that a check refuses, words written out from 30_encoding.md,
one-step vectors of 95_test_vectors.md under its test configuration TC, and for every statement that has hypotheses a
concrete state and operands that meet them. A test checks this work and is no statement for the provers. -/

namespace Sys2Proof.Machine

/-! ## States the tests start from (95_test_vectors.md section 0) -/

/-- The test configuration TC. -/
def tcConfig : Config := { }
/-- reset(TC). -/
def tc : State := State.resetWith (.accepted tcConfig)
/-- reset(TC) with another RNG state. -/
def tcRng (r : RngState) : State := { tc with rng := r }
/-- reset(TC) after a CT_CMP: TRIG = 1. -/
def tcTrig : State := tcRng { rngReset with trig := true }
/-- reset(TC) in AWAITING_ECHO with the given OVF. -/
def tcEcho (n : BitVec 8) : State := tcRng { rngReset with cstate := .awaitingEcho, ovf := n }
/-- reset(TC) with a capture of 1000, 2160 to process. -/
def tcReady : State := tcRng { rngReset with cstate := .readyToProcess, cap1 := 1000, cap2 := 2160 }
/-- reset(TC) with a timed-out cycle to process and the ring (20, 40, 0). -/
def tcTimedOut : State :=
  tcRng { rngReset with cstate := .readyToProcess, timeout := true, ovf := 4, raw0 := 20, raw1 := 40, fdist := 20 }
/-- reset(TC) before an actuation tick. -/
def tcTick : State := { tc with act := { tc.act with acyc := 1, tgt0 := 150, tgt1 := 0xFFFF, tgt2 := 2000 } }
/-- reset(TC) with a steering duty to apply. -/
def tcPending : State := { tc with act := { tc.act with shd0 := 3900, applyPending := true } }
/-- reset(TC) in a mode, armed or not. -/
def tcMode (m : OperatingMode) (armed : Bool) : State :=
  { tc with mode := { mode := m, armed := armed, led := if armed then 0b111 else modeCode m } }
/-- reset(TC) with a telemetry counter, a health flag and the distance 19. -/
def tcTlm (n : BitVec 5) (healthy : Bool) : State :=
  { tcRng { rngReset with raw0 := 19, raw1 := 19, fdist := 19 } with tlm := { tcyc := n, healthy := healthy } }

/-! ## Ill-formed terms, each refused by the check it is ill formed for -/

theorem test_reserved_code_spells_no_operation : OpWord.SpellsOperation 0xB = false ∧ OpWord.SpellsOperation 0xE = false := by
  decide
theorem test_reserved_code_is_ill_formed : OpWord.WellFormed 0xC = false := by decide
theorem test_reserved_bit_is_ill_formed : OpWord.ReservedClear 0xF1 = false ∧ OpWord.WellFormed 0xF1 = false := by decide
theorem test_unused_field_is_ill_formed : OpWord.WellFormed 0x123456780000FF02 = false := by decide
theorem test_words_of_the_spec_are_well_formed :
    OpWord.WellFormed 0x087003E800000003 = true ∧ OpWord.WellFormed 0x0000000000030005 = true ∧
    OpWord.WellFormed 0x0000000000003F09 = true ∧ OpWord.WellFormed 0xFFFFFF9C0000090A = true := by decide
theorem test_encodings_are_well_formed :
    ∀ i ∈ [Instr.idle, .capDone 0xFFFF 0xFFFF, .btOvf .closeFail, .regRd 0x3F, .regWr 0x3F 0xFFFFFFFF, .reset],
      OpWord.WellFormed (encode i) = true := by decide

theorem test_dist_max_range :
    ¬ ({ distMax := 0 } : Params).Valid ∧ ¬ ({ distMax := 1000 } : Params).Valid ∧
    ({ distMax := 1 } : Params).Valid ∧ ({ distMax := 999 } : Params).Valid := by decide
theorem test_dist_max_overflow_range :
    ¬ ({ distMaxOverflow := 0 } : Params).Valid ∧ ¬ ({ distMaxOverflow := 256 } : Params).Valid ∧
    ({ distMaxOverflow := 1 } : Params).Valid ∧ ({ distMaxOverflow := 255 } : Params).Valid := by decide
theorem test_timer_period_range :
    ¬ ({ timerPeriod := 0 } : Params).Valid ∧ ¬ ({ timerPeriod := 65537 } : Params).Valid ∧
    ({ timerPeriod := 1 } : Params).Valid ∧ ({ timerPeriod := 65536 } : Params).Valid := by decide
theorem test_ticks_per_unit_range :
    ¬ ({ ticksPerUnit := 0 } : Params).Valid ∧ ¬ ({ ticksPerUnit := 65536 } : Params).Valid ∧
    ({ ticksPerUnit := 1 } : Params).Valid ∧ ({ ticksPerUnit := 65535 } : Params).Valid := by decide
theorem test_filter_delta_range :
    ¬ ({ filterDelta := 8 } : Params).Valid ∧ ¬ ({ filterDelta := 122 } : Params).Valid ∧
    ({ filterDelta := 9 } : Params).Valid ∧ ({ filterDelta := 121 } : Params).Valid := by decide
theorem test_tilt_duty_range :
    ¬ ({ tiltDuty := 65536 } : Params).Valid ∧ ({ tiltDuty := 0 } : Params).Valid ∧
    ({ tiltDuty := 65535 } : Params).Valid := by decide
theorem test_bands_fit :
    ¬ ({ steer := ⟨1, 32768⟩ } : Params).Valid ∧ ¬ ({ speed := ⟨65536, 0⟩ } : Params).Valid ∧
    ¬ ({ pan := ⟨0, 32768⟩ } : Params).Valid ∧
    ({ steer := ⟨1, 32767⟩, speed := ⟨65535, 0⟩, pan := ⟨0, 0⟩ } : Params).Valid := by decide
theorem test_broken_configuration_is_refused :
    step (State.resetWith (Params.check { distMax := 0 })) = .refused .configRefused := rfl

/-! ## Words written out from the encoding of 30_encoding.md (95_test_vectors.md section 2.1) -/

theorem test_decode_idle : decode 0x0000000000000000 = .operation .idle := by decide
theorem test_decode_ctCmp : decode 0x0000000000000001 = .operation .ctCmp := by decide
theorem test_decode_ctOvf : decode 0x0000000000000002 = .operation .ctOvf := by decide
theorem test_decode_capDone :
    decode 0x087003E800000003 = .operation (.capDone 1000 2160) ∧
    decode 0xFFFF000000000003 = .operation (.capDone 0 65535) := by decide
theorem test_decode_poll : decode 0x0000000000000004 = .operation .poll := by decide
theorem test_decode_btOvf :
    decode 0x0000000000000005 = .operation (.btOvf .ok) ∧ decode 0x0000000000010005 = .operation (.btOvf .openFail) ∧
    decode 0x0000000000020005 = .operation (.btOvf .writeFail) ∧
    decode 0x0000000000030005 = .operation (.btOvf .closeFail) := by decide
theorem test_decode_pwmBnd : decode 0x0000000000000006 = .operation .pwmBnd := by decide
theorem test_decode_btnA : decode 0x0000000000000007 = .operation .btnA := by decide
theorem test_decode_btnB : decode 0x0000000000000008 = .operation .btnB := by decide
theorem test_decode_regRd :
    decode 0x0000000000000109 = .operation (.regRd 0x01) ∧ decode 0x0000000000002009 = .operation (.regRd 0x20) ∧
    decode 0x0000000000003F09 = .operation (.regRd 0x3F) := by decide
theorem test_decode_regWr :
    decode 0x000000960000080A = .operation (.regWr 0x08 150) ∧
    decode 0xFFFFFF9C0000090A = .operation (.regWr 0x09 0xFFFFFF9C) ∧
    decode 0x0001012C0000080A = .operation (.regWr 0x08 0x0001012C) := by decide
theorem test_decode_reset : decode 0x000000000000000F = .operation .reset := by decide
theorem test_decode_ignores_reserved_bits :
    decode 0x00000000000000F1 = .operation .ctCmp ∧ decode 0x123456780000FF02 = .operation .ctOvf := by decide
theorem test_decode_reserved :
    decode 0x000000000000000B = .reserved 0xB ∧ decode 0x000000000000000C = .reserved 0xC ∧
    decode 0x000000000000000D = .reserved 0xD ∧ decode 0x000000000000000E = .reserved 0xE := by decide
theorem test_table_word :
    decodeTableWord 64 0xFFFFFF9C0000090A = some (.regWr 0x09 0xFFFFFF9C) ∧ decodeTableWord 64 0xB = none ∧
    decodeTableWord 8 0x105 = some (.btOvf .ok) ∧ decodeTableWord 72 0x05 = none := by decide
theorem test_table_word_is_the_next_operation :
    step (State.reset.withFetchWord 64 0x8) =
      .next { State.reset with mode := { mode := .none, armed := true, led := 0b111 } } := rfl

/-! ## One step of each operation (95_test_vectors.md sections 2.2 to 2.10) -/

theorem test_idle : exec .idle tcReady = .next tcReady := rfl
theorem test_ctCmp_asserts : exec .ctCmp tc = .next tcTrig := rfl
theorem test_ctCmp_is_lost_while_ready : exec .ctCmp tcReady = .next tcReady := rfl
theorem test_ctOvf_starts_the_echo_wait : exec .ctOvf tcTrig = .next (tcEcho 0) := rfl
theorem test_ctOvf_times_out :
    exec .ctOvf (tcEcho 3) =
      .next (tcRng { rngReset with cstate := .readyToProcess, ovf := 4, timeout := true }) := rfl
theorem test_capDone_latches :
    exec (.capDone 1000 2160) (tcRng { rngReset with cstate := .awaitingEcho, timeout := true }) = .next tcReady := rfl
theorem test_capDone_early_is_discarded : exec (.capDone 500 900) tc = .next tc := rfl
theorem test_poll_after_a_capture :
    exec .poll tcReady = .next (tcRng { rngReset with cap1 := 1000, cap2 := 2160, raw0 := 20 }) := rfl
theorem test_poll_after_a_timeout :
    exec .poll tcTimedOut =
      .next (tcRng { rngReset with timeout := true, raw0 := 400, raw1 := 20, raw2 := 40, fdist := 20 }) := rfl
theorem test_btOvf_maps_the_targets :
    exec (.btOvf .ok) tcTick =
      .next { tcTick with
        act := { tcTick.act with acyc := 0, shd0 := 3900, shd1 := 2999, shd2 := 4500, applyPending := true },
        tlm := { tcyc := 1, healthy := true } } := rfl
theorem test_btOvf_logs_the_distance :
    exec (.btOvf .closeFail) (tcTlm 24 true) =
      .next { tcTlm 0 false with
        act := { tc.act with acyc := 1 },
        trace := [.tlm [0x64, 0x69, 0x73, 0x74, 0x3A, 0x30, 0x31, 0x39, 0x0D, 0x0A] .closeFail] } := rfl
theorem test_pwmBnd_applies :
    exec .pwmBnd tcPending = .next { tc with act := { tc.act with shd0 := 3900, act0 := 3900 } } := rfl
theorem test_pwmBnd_without_a_duty : exec .pwmBnd tc = .next tc := rfl
theorem test_btnA_wraps : exec .btnA (tcMode .iot false) = .next (tcMode .none false) := rfl
theorem test_btnA_armed : exec .btnA (tcMode .accuracy true) = .next (tcMode .accuracy true) := rfl
theorem test_btnB_arms : exec .btnB (tcMode .iot false) = .next (tcMode .iot true) := rfl
theorem test_btnB_disarms : exec .btnB (tcMode .iot true) = .next (tcMode .none false) := rfl
theorem test_regRd_status :
    exec (.regRd 0x00) tcTimedOut = .next { tcTimedOut with trace := [.rd 0x00 0x0000040A] } := rfl
theorem test_regRd_target :
    exec (.regRd 0x09) tcTick = .next { tcTick with trace := [.rd 0x09 0xFFFFFFFF] } := rfl
theorem test_regWr_keeps_the_low_half :
    exec (.regWr 0x08 0x0001012C) tc = .next { tc with act := { tc.act with tgt0 := 300 } } := rfl
theorem test_regWr_read_only : exec (.regWr 0x01 5) tcTimedOut = .next tcTimedOut := rfl
theorem test_reset_keeps_the_trace :
    exec .reset { tcTick with trace := [.rd 0x3F 0] } = .next { tc with trace := [.rd 0x3F 0] } := rfl
theorem test_reset_is_idempotent : exec .reset tc = .next tc := rfl

/-! ## Functions of the units (95_test_vectors.md sections 2.3 to 2.9) -/

theorem test_samples :
    [((49000 : Half), (1320 : Half), (1 : BitVec 8)), (100, 99, 0), (65535, 0, 0), (0, 57, 0), (0, 58, 0), (0, 23200, 0),
      (0, 23258, 0), (0, 65535, 3)].map
        (fun x => sample { } { rngReset with cap1 := x.1, cap2 := x.2.1, ovf := x.2.2 }) =
      [40, 0, 0, 0, 1, 400, 400, 400] := by decide
theorem test_filter :
    spikeFilter 20 5 20 0 = 20 ∧ spikeFilter 20 5 21 0 = 5 ∧ spikeFilter 20 7 20 40 = 20 ∧ spikeFilter 20 3 0 400 = 3 := by
  decide
theorem test_duties :
    ([300, 0xFED4, 0xFFFF, 299, 0x8000, 32767] : List Half).map (mappedDuty ⟨3000, 600, 300⟩) =
      [4200, 3000, 3598, 4198, 3000, 4200] ∧
    ([333, 0xFC19, 0xFFFF, 5000] : List Half).map (mappedDuty ⟨2000, 1000, 1000⟩) = [3333, 2001, 2999, 4000] ∧
    ([7, 0xFFFF, 0xFE3E, 0xFC7B] : List Half).map (mappedDuty ⟨1500, 1500, 900⟩) = [3011, 2998, 2250, 1500] := by decide
theorem test_status_words :
    regRead 0x00 (tcRng { rngReset with cstate := .readyToProcess, ovf := 1 }) = 0x00000102 ∧
    regRead 0x20 (tcMode .accuracy false) = 0x00000033 ∧ regRead 0x20 (tcMode .accuracy true) = 0x0000007B ∧
    regRead 0x18 { tc with act := { tc.act with acyc := 1 } } = 0x00000100 ∧
    regRead 0x28 (tcTlm 24 false) = 0x00001800 ∧ regRead 0x13 tc = 0x00000CE4 ∧ regRead 0x3F tc = 0 := by decide

/-! ## Assembly (30_encoding.md R76, R77) -/

theorem test_assemble_capture : assembleLine "CAP_DONE 49000, 1320 ; a comment" = some [0x0528BF6800000003] := by decide
theorem test_assemble_register :
    assembleLine "REG_RD MODESTAT" = some [0x0000000000002009] ∧ assembleLine "REG_RD 0x3F" = some [0x0000000000003F09] ∧
    assembleLine "REG_WR TGT2, -450" = some [0xFFFFFE3E00000A0A] ∧
    assembleLine "REG_WR RSTAT, 0xFFFFFFFF" = some [0xFFFFFFFF0000000A] := by decide
theorem test_assemble_storage : assembleLine "BT_OVF WRITE_FAIL" = some [0x0000000000020005] := by decide
theorem test_assemble_refuses :
    assembleLine "JUMP" = none ∧ assembleLine "CAP_DONE 65536, 0" = none ∧ assembleLine "REG_RD 64" = none ∧
    assembleLine "REP 0, POLL" = none := by decide

/-! ## Witnesses: for each statement with hypotheses, a state and operands that meet them together -/

theorem tc_legal : LegalState tc :=
  ⟨by constructor <;> decide, by constructor <;> decide, by constructor <;> decide, by constructor; decide,
    fun _ h => nomatch h⟩
theorem tcRng_legal (r : RngState) (h : RngInv { } r) : LegalState (tcRng r) :=
  ⟨h, tc_legal.act, tc_legal.mode, tc_legal.tlm, tc_legal.trace⟩
theorem tcTrig_legal : LegalState tcTrig := tcRng_legal _ (by constructor <;> decide)
theorem tcEcho_legal_at_start : LegalState (tcEcho 0) := tcRng_legal _ (by constructor <;> decide)
theorem tcEcho_legal_below_the_budget : LegalState (tcEcho 2) := tcRng_legal _ (by constructor <;> decide)
theorem tcEcho_legal_at_the_budget : LegalState (tcEcho 3) := tcRng_legal _ (by constructor <;> decide)
theorem tcReady_legal : LegalState tcReady := tcRng_legal _ (by constructor <;> decide)
theorem tcTimedOut_legal : LegalState tcTimedOut := tcRng_legal _ (by constructor <;> decide)

theorem test_witness_DecodeOfEncodeIsIdentity :
    (Instr.capDone 0xFFFF 0xFFFF).WellFormed = true ∧ (Instr.regWr 0x3F 0xFFFFFFFF).WellFormed = true ∧
    Instr.reset.WellFormed = true := by decide
theorem test_witness_EncodeOfDecodeClearsReservedBits :
    decode 0x123456780000FF02 = .operation .ctOvf ∧
    encode .ctOvf = (0x123456780000FF02 : OpWord) &&& usedBits 0x2 := by decide
theorem test_witness_ReservedBitsAreIgnored :
    (0xF1 : OpWord).extractLsb' 0 4 = (0x01 : OpWord).extractLsb' 0 4 ∧
    (0xF1 : OpWord) &&& usedBits ((0xF1 : OpWord).extractLsb' 0 4) =
      (0x01 : OpWord) &&& usedBits ((0xF1 : OpWord).extractLsb' 0 4) := by decide
theorem test_witness_DecodeFollowsTheOperationTable :
    ∀ w ∈ ([0xFFFFFFFFFFFFFFF0, 0xFFFFFFFFFFFFFFF3, 0xFFFFFFFFFFFFFFF5, 0xFFFFFFFFFFFFFFF9, 0xFFFFFFFFFFFFFFFA,
      0xFFFFFFFFFFFFFFFF] : List OpWord), ∃ i, decode w = .operation i := by
  intro w h
  simp only [List.mem_cons, List.not_mem_nil, or_false] at h
  rcases h with rfl | rfl | rfl | rfl | rfl | rfl <;> exact ⟨_, rfl⟩
theorem test_witness_DecodeFollowsTheOperationTable_reserved :
    decode 0xFFFFFFFFFFFFFFFB = .reserved 0xB ∧ decode 0xFFFFFFFFFFFFFFFE = .reserved 0xE := by decide
theorem test_witness_StepRunsTheDecodedOperation :
    { tc with ops := [0x7, 0xB] }.setup = .accepted tcConfig ∧ decode 0x7 = .operation .btnA ∧
    step { tc with ops := [0x7, 0xB] } = .next { tcMode .basic false with ops := [0xB] } := ⟨rfl, rfl, rfl⟩
theorem test_witness_PresentedTableWordRunsNext :
    tc.setup = .accepted tcConfig ∧ decodeTableWord 64 0x7 = some .btnA := ⟨rfl, by decide⟩
theorem test_witness_ReservedWordIsRefusedForGood :
    { tc with ops := [0xFB] }.setup = .accepted tcConfig ∧
    step { tc with ops := [0xFB] } = .refused (.reservedOperation 0xB) ∧
    step { tc with ops := [0xFE] } = .refused (.reservedOperation 0xE) := ⟨rfl, rfl, rfl⟩
theorem test_witness_BrokenConfigurationIsRefused_accepted :
    ∃ c, Params.check { } = .accepted c ∧ c.params = { } := ⟨tcConfig, rfl, rfl⟩
theorem test_witness_BrokenConfigurationIsRefused_refused :
    ¬ (9 ≤ ({ filterDelta := 122 } : Params).filterDelta ∧ ({ filterDelta := 122 } : Params).filterDelta ≤ 121) ∧
    (State.resetWith (Params.check { filterDelta := 122 })).setup = Params.check { filterDelta := 122 } := ⟨by decide, rfl⟩
theorem test_witness_BlockWaitsWithNothingPresented : tc.setup = .accepted tcConfig ∧ tc.ops = [] := ⟨rfl, rfl⟩
theorem test_witness_ResetRestoresEveryElement : tcTick.setup = .accepted tcConfig := rfl
theorem test_witness_PowerOnIsTheResetState : tcTick.setup = Setup.accepted tcConfig := rfl
theorem test_witness_EveryStepKeepsTheInvariant :
    LegalState { tcReady with ops := [0x4] } ∧ ∃ t, step { tcReady with ops := [0x4] } = .next t :=
  ⟨⟨tcReady_legal.rng, tc_legal.act, tc_legal.mode, tc_legal.tlm, tc_legal.trace⟩, _, rfl⟩
theorem test_witness_SafeRunsNeverStop : SafeState { tc with ops := [0x1, 0x2, 0x4] } := by
  refine ⟨⟨tcConfig, rfl⟩, fun w h => ?_⟩
  simp only [List.mem_cons, List.not_mem_nil, or_false] at h
  rcases h with rfl | rfl | rfl <;> decide

theorem test_witness_CtCmpAssertsTheTrigger :
    (tc.rng.cstate = .awaitingTrigger ∧ tc.rng.trig = false) ∧
    ¬ (tcTrig.rng.cstate = .awaitingTrigger ∧ tcTrig.rng.trig = false) ∧
    ¬ (tcReady.rng.cstate = .awaitingTrigger ∧ tcReady.rng.trig = false) := by decide
theorem test_witness_CtOvfTransitions_trigger :
    tcTrig.setup = .accepted tcConfig ∧ LegalState tcTrig ∧ tcTrig.rng.cstate = .awaitingTrigger ∧
    tcTrig.rng.trig = true ∧ LegalState tc ∧ tc.rng.cstate = .awaitingTrigger ∧ tc.rng.trig = false :=
  ⟨rfl, tcTrig_legal, rfl, rfl, tc_legal, rfl, rfl⟩
theorem test_witness_CtOvfTransitions_echo :
    LegalState (tcEcho 2) ∧ (tcEcho 2).rng.cstate = .awaitingEcho ∧
    (tcEcho 2).rng.ovf.toNat + 1 < tcConfig.params.distMaxOverflow ∧ LegalState (tcEcho 3) ∧
    (tcEcho 3).rng.cstate = .awaitingEcho ∧ (tcEcho 3).rng.ovf.toNat + 1 ≥ tcConfig.params.distMaxOverflow :=
  ⟨tcEcho_legal_below_the_budget, rfl, by decide, tcEcho_legal_at_the_budget, rfl, by decide⟩
theorem test_witness_CtOvfTransitions_ready :
    LegalState tcTimedOut ∧ tcTimedOut.setup = .accepted tcConfig ∧ tcTimedOut.rng.cstate = .readyToProcess :=
  ⟨tcTimedOut_legal, rfl, rfl⟩
theorem test_witness_CapDoneLatchesBothTimestamps :
    (tcEcho 0).rng.cstate = .awaitingEcho ∧ tc.rng.cstate ≠ .awaitingEcho ∧ tcReady.rng.cstate ≠ .awaitingEcho := by decide
theorem test_witness_PollProcessesTheCaptureCycle :
    tcReady.setup = .accepted tcConfig ∧ tcReady.rng.cstate = .readyToProcess ∧ tcReady.rng.timeout = false ∧
    tcTimedOut.setup = .accepted tcConfig ∧ tcTimedOut.rng.cstate = .readyToProcess ∧ tcTimedOut.rng.timeout = true :=
  ⟨rfl, rfl, rfl, rfl, rfl, rfl⟩
theorem test_witness_PollProcessesTheCaptureCycle_ignored :
    (tcEcho 0).setup = .accepted tcConfig ∧ (tcEcho 0).rng.cstate ≠ .readyToProcess := ⟨rfl, by decide⟩
theorem test_witness_PollIgnoredUnlessReady :
    tc.rng.cstate ≠ .readyToProcess ∧ (tcEcho 0).rng.cstate ≠ .readyToProcess := by decide
theorem test_witness_FilterExamplesHoldExactlyInTheRange :
    (spikeFilter 9 18 19 26 = 19 ∧ spikeFilter 9 150 28 19 = 28 ∧ spikeFilter 9 8 150 28 = 8) ∧
    (spikeFilter 121 18 19 26 = 19 ∧ spikeFilter 121 150 28 19 = 28 ∧ spikeFilter 121 8 150 28 = 8) ∧
    spikeFilter 8 150 28 19 ≠ 28 ∧ spikeFilter 122 8 150 28 ≠ 8 := by decide

/-- A full ring of 20 with a capture to process, whose fall the argument gives. -/
def tcRing (fall r0 r1 r2 : Half) : State :=
  tcRng { rngReset with cstate := .readyToProcess, cap2 := fall, raw0 := r0, raw1 := r1, raw2 := r2, fdist := 20 }
/-- That ring after its POLL. -/
def tcRung (fall r0 r1 r2 d : Half) : State :=
  tcRng { rngReset with cap2 := fall, raw0 := r0, raw1 := r1, raw2 := r2, fdist := d }

theorem test_witness_StepAndSpikeResponse_step :
    exec .poll (tcRing 5800 20 20 20) = .next (tcRung 5800 100 20 20 20) ∧
    exec .poll (tcRing 5800 100 20 20) = .next (tcRung 5800 100 100 20 100) := ⟨rfl, rfl⟩
theorem test_witness_StepAndSpikeResponse_spike :
    exec .poll (tcRing 5220 20 20 20) = .next (tcRung 5220 90 20 20 20) ∧
    exec .poll (tcRing 1160 90 20 20) = .next (tcRung 1160 20 90 20 20) ∧
    |((90 : Half).toNat : Int) - (20 : Half).toNat| > tcConfig.params.filterDelta := ⟨rfl, rfl, by decide⟩
theorem test_witness_StepAndSpikeResponse_small :
    exec .poll (tcRing 2320 20 20 20) = .next (tcRung 2320 40 20 20 20) ∧
    exec .poll (tcRing 1160 40 20 20) = .next (tcRung 1160 20 40 20 40) ∧
    |((40 : Half).toNat : Int) - (20 : Half).toNat| ≤ tcConfig.params.filterDelta := ⟨rfl, rfl, by decide⟩
theorem test_witness_CaptureStateIsStrictlyCyclic :
    (∃ t, exec .ctOvf tcTrig = .next t ∧ t.rng.cstate = .awaitingEcho) ∧
    (∃ t, exec (.capDone 0 0) (tcEcho 0) = .next t ∧ t.rng.cstate = .readyToProcess) ∧
    (∃ t, exec .poll tcReady = .next t ∧ t.rng.cstate = .awaitingTrigger) ∧
    ∃ t, exec .reset (tcEcho 0) = .next t ∧ t.rng.cstate = .awaitingTrigger :=
  ⟨⟨_, rfl, rfl⟩, ⟨_, rfl, rfl⟩, ⟨_, rfl, rfl⟩, ⟨_, rfl, rfl⟩⟩
theorem test_witness_EchoWaitEndsAtTheBudget :
    (tcEcho 0).setup = .accepted tcConfig ∧ LegalState (tcEcho 0) ∧ (tcEcho 0).rng.cstate = .awaitingEcho ∧
    (tcEcho 0).rng.ovf.toNat + 3 < tcConfig.params.distMaxOverflow ∧
    tcConfig.params.distMaxOverflow ≤ (tcEcho 0).rng.ovf.toNat + 4 :=
  ⟨rfl, tcEcho_legal_at_start, rfl, by decide, by decide⟩
theorem test_witness_ReadyWaitsForItsPoll :
    tcReady.rng.cstate = .readyToProcess ∧
    ∀ i ∈ [Instr.ctCmp, .ctOvf, .capDone 7 9, .btOvf .ok, .regRd 0x01], i ≠ .poll ∧ i ≠ .reset := by decide

theorem test_witness_BtOvfActuationPart :
    tcTick.setup = .accepted tcConfig ∧ tcTick.act.acyc = 1 ∧ tc.setup = .accepted tcConfig ∧ tc.act.acyc = 0 :=
  ⟨rfl, rfl, rfl, rfl⟩
theorem test_witness_DutyLawOnTheBand_valid : tcConfig.params.Valid := by decide
theorem test_witness_DutyLawOnTheBand :
    let cal := calibration tcConfig.params .steering
    (-(cal.clampMagnitude : Int) ≤ -300 ∧ (-300 : Int) ≤ cal.clampMagnitude ∧ duty cal (-300) = 3000) ∧
    (-(cal.clampMagnitude : Int) ≤ 300 ∧ (300 : Int) ≤ cal.clampMagnitude ∧ duty cal 300 = 4200) := by decide
theorem test_witness_DutyIsMonotone :
    let cal := calibration tcConfig.params .cameraPan
    (-(cal.clampMagnitude : Int) ≤ -900 ∧ (900 : Int) ≤ cal.clampMagnitude) ∧ (-900 : Int) ≤ 900 := by decide
theorem test_witness_ClampIsIdempotent :
    (1001 : Int) > (calibration tcConfig.params .driveSpeed).clampMagnitude ∧
    (-1001 : Int) < -((calibration tcConfig.params .driveSpeed).clampMagnitude : Int) := by decide
theorem test_witness_PwmBoundaryAppliesAllChannels :
    tcPending.act.applyPending = true ∧ tc.act.applyPending = false := ⟨rfl, rfl⟩
theorem test_witness_SetpointReachesTheOutput : tcTick.setup = .accepted tcConfig := rfl

theorem test_witness_BtnAAdvancesTheMode :
    (tcMode .iot false).mode.armed = false ∧ (tcMode .none true).mode.armed = true := ⟨rfl, rfl⟩
theorem test_witness_BtnBTogglesTheArmLatch :
    (tcMode .iot false).mode.armed = false ∧ (tcMode .none true).mode.armed = true := ⟨rfl, rfl⟩
theorem test_witness_ModeCycleProperties :
    (tcMode .speed false).mode.armed = false ∧ (tcMode .speed true).mode.armed = true ∧
    (1 ≤ 1 ∧ 1 ≤ 4 ∧ nextMode .speed ≠ .speed) ∧
    (1 ≤ 4 ∧ 4 ≤ 4 ∧ nextMode (nextMode (nextMode (nextMode .speed))) ≠ .speed) := by decide
theorem test_witness_ButtonOrderDecidesTheArmedMode :
    (tcMode .speed false).mode.armed = false ∧ (tcMode .speed true).mode.armed = true := ⟨rfl, rfl⟩

theorem test_witness_BtOvfTelemetryPart :
    ((tcTlm 24 true).tlm.tcyc.toNat < 25 ∧ (tcTlm 24 true).tlm.tcyc.toNat + 1 = 25 ∧
      (tcTlm 24 true).tlm.healthy = true) ∧
    ((tcTlm 24 false).tlm.tcyc.toNat + 1 = 25 ∧ (tcTlm 24 false).tlm.healthy = false) ∧
    (tcTlm 23 true).tlm.tcyc.toNat < 25 ∧ (tcTlm 23 true).tlm.tcyc.toNat + 1 ≠ 25 := by decide
theorem test_witness_HealthyIsAOneWayLatch_failure :
    (tcTlm 24 true).tlm.healthy = true ∧ (tcTlm 24 true).tlm.tcyc.toNat + 1 = 25 ∧ StorageAnswer.openFail ≠ .ok := by decide
theorem test_witness_HealthyIsAOneWayLatch :
    (tcTlm 24 false).tlm.healthy = false ∧ Instr.btOvf .ok ≠ .reset ∧
    ∃ t, exec (.btOvf .ok) (tcTlm 24 false) = .next t ∧ t.trace = [] := ⟨rfl, by decide, _, rfl, rfl⟩
theorem test_witness_StatusLineSpellsTheDistance :
    (0 ≤ 999 ∧ formatLine 0 = [0x64, 0x69, 0x73, 0x74, 0x3A, 0x30, 0x30, 0x30, 0x0D, 0x0A]) ∧
    (999 ≤ 999 ∧ formatLine 999 = [0x64, 0x69, 0x73, 0x74, 0x3A, 0x39, 0x39, 0x39, 0x0D, 0x0A]) := by decide

theorem test_witness_RegRdReturnsTheRegisterWord :
    ∀ i ∈ ([0x07, 0x0B, 0x0F, 0x19, 0x1F, 0x21, 0x27, 0x29, 0x3F] : List RegIndex),
      (i.toNat = 0x07 ∨ (0x0B ≤ i.toNat ∧ i.toNat ≤ 0x0F) ∨ (0x19 ≤ i.toNat ∧ i.toNat ≤ 0x1F) ∨
        (0x21 ≤ i.toNat ∧ i.toNat ≤ 0x27) ∨ 0x29 ≤ i.toNat) ∧ registerAt i = none := by decide
theorem test_witness_RegWrWritesTheTargetsOnly :
    ∀ i ∈ ([0x00, 0x07, 0x0B, 0x10, 0x3F] : List RegIndex), i ≠ 0x08 ∧ i ≠ 0x09 ∧ i ≠ 0x0A := by decide
theorem test_witness_RegisterAccessHasNoSideEffect :
    ¬ IsTargetIndex 0x07 ∧ ¬ IsTargetIndex 0x0B ∧ (0x09 : RegIndex) ≠ 0x08 := by decide

theorem test_witness_SingleWriterOwnership :
    (∃ t, exec .btnB tc = .next t) ∧ ¬ Element.fdist.WrittenBy .btnB ∧ Element.armed.WrittenBy .btnB :=
  ⟨⟨_, rfl⟩, by decide, by decide⟩
theorem test_witness_TraceIsAppendOnly :
    (∃ t, exec (.btOvf .ok) (tcTlm 24 true) = .next t ∧ t.trace ≠ []) ∧
    ∃ t, exec (.regRd 0x3F) tc = .next t ∧ t.trace ≠ [] :=
  ⟨⟨_, rfl, by decide⟩, ⟨_, rfl, by decide⟩⟩
theorem test_witness_ConfigurationNeverChanges : ∃ t, step { tc with ops := [0xF] } = .next t := ⟨_, rfl⟩
theorem test_witness_ModeIsReadByNoOtherUnit : ∀ r, Instr.btOvf .ok ≠ .regRd r := fun _ h => nomatch h
theorem test_witness_CountersCountEveryBtOvf :
    (∀ i ∈ [Instr.btOvf .ok, .poll, .btOvf .openFail, .btnB], i ≠ .reset) ∧ (tcTlm 24 false).tlm.tcyc.toNat < 25 := by
  decide
theorem test_witness_UnlistedPairsCommute :
    LegalState tcReady ∧ Instr.ctOvf ≠ .poll ∧ ¬ OrderSensitive tcReady .ctOvf .poll ∧
    ¬ OrderSensitive tcReady .btnA .pwmBnd := by
  refine ⟨tcReady_legal, by decide, ?_, ?_⟩ <;>
    simp [OrderSensitive, OrderListed, OrderUnlisted, Emits, tcReady, tcRng]
theorem test_witness_CapDonePollOrderMatters : (tcEcho 0).rng.cstate = .awaitingEcho := rfl
theorem test_witness_AtMostOneErrorCondition :
    (tcEcho 3).setup = .accepted tcConfig ∧ .sensorTimeout ∈ detectedErrors .ctOvf (tcEcho 3) ∧
    .sensorTimeout ∉ detectedErrors .ctOvf (tcEcho 2) ∧
    detectedErrors (.btOvf .writeFail) { tcTick with tlm := { tcyc := 24, healthy := true } } =
      [.targetOutOfRange .cameraPan, .storageWrite] := ⟨rfl, by decide, by decide, by decide⟩
theorem test_witness_AtMostOneErrorCondition_at_the_bounds :
    let act := { tcTick.act with tgt0 := 300, tgt1 := 1001, tgt2 := 0xFC7B }
    detectedErrors (.btOvf .ok) { tcTick with act := act } =
      [.targetOutOfRange .driveSpeed, .targetOutOfRange .cameraPan] := by decide
theorem test_witness_ErrorConditionsAreRecorded :
    (tcEcho 3).setup = .accepted tcConfig ∧ .sensorTimeout ∈ detectedErrors .ctOvf (tcEcho 3) ∧
    (tcTlm 24 true).setup = .accepted tcConfig ∧ (tcTlm 24 true).tlm.tcyc.toNat + 1 = 25 ∧
    (tcTlm 24 true).tlm.healthy = true ∧
    detectedErrors (.btOvf .openFail) (tcTlm 24 true) = [.storageOpen] ∧
    detectedErrors (.btOvf .closeFail) (tcTlm 24 true) = [.storageClose] ∧
    detectedErrors (.btOvf .ok) tcTick = [.targetOutOfRange .cameraPan] ∧ ¬ Attempts tcTick.tlm :=
  ⟨rfl, by decide, rfl, by decide, rfl, by decide, by decide, by decide, by decide⟩
theorem test_witness_PseudoOperationsExpand :
    asmNumber "1".toList = some 1 ∧ asmSimple [.word "POLL".toList] = some [.poll] ∧
    asmNumber "0x10".toList = some 16 ∧
    asmSimple [.word "REG_RD".toList, .word "FDIST".toList] = some [.regRd 0x01] ∧
    asmData "-450".toList = some 0xFFFFFE3E ∧ asmData "0xFFFFFFFF".toList = some 0xFFFFFFFF := by decide
theorem test_witness_RangingPairsDependOnTheOrder :
    (tc.setup = .accepted tcConfig ∧ LegalState tc ∧ tc.rng.cstate = .awaitingTrigger ∧ tc.rng.trig = false) ∧
    (LegalState tcReady ∧ tcReady.rng.cstate = .readyToProcess) ∧
    (LegalState tcTrig ∧ tcTrig.rng.cstate = .awaitingTrigger ∧ tcTrig.rng.trig = true) ∧
    (LegalState (tcEcho 2) ∧ (tcEcho 2).rng.cstate = .awaitingEcho ∧
      (tcEcho 2).rng.ovf.toNat + 1 < tcConfig.params.distMaxOverflow) ∧
    LegalState (tcEcho 3) ∧ tcConfig.params.distMaxOverflow ≤ (tcEcho 3).rng.ovf.toNat + 1 :=
  ⟨⟨rfl, tc_legal, rfl, rfl⟩, ⟨tcReady_legal, rfl⟩, ⟨tcTrig_legal, rfl, rfl⟩,
    ⟨tcEcho_legal_below_the_budget, rfl, by decide⟩, tcEcho_legal_at_the_budget, by decide⟩
theorem test_witness_TickPairsDependOnTheOrder :
    let ready := { tcReady with tlm := { tcyc := 24, healthy := true } }
    (ready.setup = .accepted tcConfig ∧ ready.rng.cstate = .readyToProcess ∧ ready.tlm.tcyc.toNat + 1 = 25 ∧
      ready.tlm.healthy = true) ∧
    (tcTick.setup = .accepted tcConfig ∧ tcTick.act.acyc = 1) ∧
    (tcTlm 23 true).setup = .accepted tcConfig ∧ (tcTlm 23 true).tlm.tcyc.toNat + 2 = 25 ∧
      (tcTlm 23 true).tlm.healthy = true :=
  ⟨⟨rfl, rfl, rfl, rfl⟩, ⟨rfl, rfl⟩, rfl, rfl, rfl⟩
theorem test_witness_HostAndResetPairsDependOnTheOrder :
    (∃ t, exec (.btOvf .ok) (tcTlm 24 true) = .next t ∧ t.trace ≠ []) ∧
    ∃ t, exec .btnB (tcMode .speed true) = .next t := ⟨⟨_, rfl, by decide⟩, _, rfl⟩
theorem test_witness_ResetAbsorbsSomeListedOperations :
    exec .pwmBnd tcPending ≠ .next tcPending ∧ execAll [.reset, .pwmBnd] tcPending = .next tc ∧
    execAll [.pwmBnd, .reset] tcPending = .next tc := by
  refine ⟨fun h => ?_, rfl, rfl⟩
  exact absurd (congrArg (fun s => s.act.act0) (Host.Outcome.next.inj h)) (by decide)
theorem test_witness_CtOvfPollOrderMattersAtTheBudget :
    (tcEcho 3).setup = .accepted tcConfig ∧ (tcEcho 3).rng.cstate = .awaitingEcho ∧
    tcConfig.params.distMaxOverflow ≤ (tcEcho 3).rng.ovf.toNat + 1 := ⟨rfl, rfl, by decide⟩

end Sys2Proof.Machine
end

section
/-! PROOF. The statements of 00_scope.md: what a step answers, when a configuration is accepted, and runs that never stop.
First the equations of `decode`, `exec` and `step` that these proofs go through, then the obligations. -/

namespace Sys2Proof.Machine

/-! ## The decoder and the operations -/

/-- The spec's range for reserved codes (30_encoding.md R72), read off the OP field. -/
theorem spellsOperation_iff (w : OpWord) :
    w.SpellsOperation = true ↔ ¬ (0xB ≤ (fieldOp w).toNat ∧ (fieldOp w).toNat ≤ 0xE) := by
  simp [OpWord.SpellsOperation, fieldOp, imp_iff_not_or]

/-- The decoder reads an operation from exactly the words whose code is not reserved (R72, R75). -/
theorem decode_operation_iff (w : OpWord) : (∃ i, decode w = .operation i) ↔ w.SpellsOperation = true := by
  rw [spellsOperation_iff]
  unfold decode
  split
  case h_13 => -- none of the twelve codes of R66
    have hreserved : 0xB ≤ (fieldOp w).toNat ∧ (fieldOp w).toNat ≤ 0xE := by
      simp only [imp_false] at *
      omega
    simpa using hreserved
  all_goals exact ⟨fun _ => by omega, fun _ => ⟨_, rfl⟩⟩

/-- Every operation answers a next state, and none writes the configuration or the words still to be presented: each
meaning is built from the unit writes and `emit` alone (00_scope.md R16, 60_exceptions.md R185). -/
theorem exec_next_frame (i : Instr) (s : State) :
    ∃ t, exec i s = .next t ∧ t.setup = s.setup ∧ t.ops = s.ops := by
  cases i <;> exact ⟨_, rfl, rfl, rfl⟩

/-! ## The step, by what it finds presented

A refused configuration is found first (R16); with nothing presented the step waits (70_reset_and_hazards.md R211, log 3). -/

theorem step_of_refused {s : State} {p : Params} {broken : ¬ p.Valid} (hs : s.setup = .refused p broken) :
    step s = .refused .configRefused := by
  simp only [step, takeWord, hs]

theorem step_of_nothing {s : State} {c : Config} (hs : s.setup = .accepted c) (hops : s.ops = []) :
    step s = .next s := by
  simp only [step, takeWord, hs, hops]

theorem step_of_operation {s : State} {c : Config} {w : OpWord} {rest : List OpWord} {i : Instr}
    (hs : s.setup = .accepted c) (hops : s.ops = w :: rest) (hw : decode w = .operation i) :
    step s = exec i (s.setOps rest) := by
  simp only [step, takeWord, hs, hops, hw]

/-- Settles O6. -/
theorem stepRunsTheDecodedOperation : Obligations.StepRunsTheDecodedOperation :=
  fun _ _ _ _ _ hs hops hw => step_of_operation hs hops hw

/-! ## Presenting a table word -/

theorem decode_of_decodeTableWord {nbits w : Nat} {i : Instr} (h : decodeTableWord nbits w = some i) :
    decode (tableWord nbits w) = .operation i := by
  unfold decodeTableWord at h
  split at h
  · split at h
    · next hd => rw [hd, Option.some.inj h]
    · cases h
  · cases h

/-- Settles O7: taking the presented word away again restores the state. -/
theorem presentedTableWordRunsNext : Obligations.PresentedTableWordRunsNext := by
  intro s c nbits w i hs hw
  have hset : (s.withFetchWord nbits w).setup = .accepted c := hs
  have hops : (s.withFetchWord nbits w).ops = tableWord nbits w :: s.ops := rfl
  have hrestore : (s.withFetchWord nbits w).setOps s.ops = s := rfl
  rw [step_of_operation hset hops (decode_of_decodeTableWord hw), hrestore]

/-! ## The configuration check -/

theorem check_of_valid {p : Params} (h : p.Valid) : p.check = .accepted ⟨p, h⟩ := dif_pos h

theorem check_of_not_valid {p : Params} (h : ¬ p.Valid) : p.check = .refused p h := dif_neg h

/-- Settles O9: the constraints written out are `Params.Valid`, on which the check decides. -/
theorem brokenConfigurationIsRefused : Obligations.BrokenConfigurationIsRefused :=
  fun _ => ⟨fun h => ⟨_, check_of_valid h, rfl⟩, fun h _ hs => step_of_refused (hs.trans (check_of_not_valid h))⟩

/-! ## Runs that never stop -/

/-- A property whose states always step to a next state with the property is kept along a run of any length, which
therefore never stops. -/
theorem run_next_of_step_next {M : Host.Core} {P : M.State → Prop}
    (hstep : ∀ s, P s → ∃ t, M.step s = .next t ∧ P t) (n : Nat) (s : M.State) (hs : P s) :
    ∃ t, M.run n s = .next t ∧ P t := by
  induction n generalizing s with
  | zero => exact ⟨s, rfl, hs⟩
  | succ n ih =>
    obtain ⟨s', hnext, hs'⟩ := hstep s hs
    simpa only [Host.Core.run, hnext] using ih s' hs'

/-- A safe state steps to a safe state: it waits, or it runs an operation, which leaves the configuration and the later
words as they are. -/
theorem step_next_of_safe {s : State} (h : SafeState s) : ∃ t, step s = .next t ∧ SafeState t := by
  obtain ⟨⟨c, hs⟩, hwords⟩ := h
  cases hops : s.ops with
  | nil => exact ⟨s, step_of_nothing hs hops, ⟨c, hs⟩, hwords⟩
  | cons w rest =>
    rw [hops, List.forall_mem_cons] at hwords
    obtain ⟨hw, hrest⟩ := hwords
    obtain ⟨i, hi⟩ := (decode_operation_iff w).mpr hw
    obtain ⟨t, ht, hsetup, htops⟩ := exec_next_frame i (s.setOps rest)
    refine ⟨t, (step_of_operation hs hops hi).trans ht, ⟨c, hsetup.trans hs⟩, ?_⟩
    rw [htops]
    exact hrest

/-- Settles O15, by induction on the number of steps. -/
theorem safeRunsNeverStop : Obligations.SafeRunsNeverStop :=
  fun s n hs => run_next_of_step_next (M := core) (P := SafeState) (fun _ => step_next_of_safe) n s hs

end Sys2Proof.Machine
end

section
/-! PROOF. The statements of 10_state.md: the invariant `LegalState` at reset and along every step, the cycle of CSTATE, the
single writer of each element, and the read-back of a target. The invariant goes unit by unit: each function of a unit keeps
its unit's invariant, and each write of a unit keeps `LegalState` when the value written meets that invariant. -/

namespace Sys2Proof.Machine

/-! ## What an operation and a step can do -/

/-- All that an operation can do to RNG: only the four ranging operations and RESET write it (R49). -/
theorem exec_rng_cases {i : Instr} {s t : State} (h : exec i s = .next t) :
    t.rng = s.rng ∨
    (i = .ctCmp ∧ t.rng = rngCtCmp s.rng) ∨
    (i = .ctOvf ∧ t.rng = rngCtOvf s.params s.rng) ∨
    (∃ rise fall, i = .capDone rise fall ∧ t.rng = rngCapDone rise fall s.rng) ∨
    (i = .poll ∧ t.rng = rngPoll s.params s.rng) ∨
    (i = .reset ∧ t.rng = rngReset) := by
  cases i <;> obtain rfl := Host.Outcome.next.inj h
  case ctCmp => exact .inr (.inl ⟨rfl, rfl⟩)
  case ctOvf => exact .inr (.inr (.inl ⟨rfl, rfl⟩))
  case capDone rise fall => exact .inr (.inr (.inr (.inl ⟨rise, fall, rfl, rfl⟩)))
  case poll => exact .inr (.inr (.inr (.inr (.inl ⟨rfl, rfl⟩))))
  case reset => exact .inr (.inr (.inr (.inr (.inr ⟨rfl, rfl⟩))))
  all_goals exact .inl rfl

/-- All that a completed step can have done: it waited, or it ran the operation of the first word under an accepted
configuration (00_scope.md R16, 70_reset_and_hazards.md R211). -/
theorem step_next_cases {s t : State} (h : step s = .next t) :
    t = s ∨
    ∃ c w rest i, s.setup = .accepted c ∧ s.ops = w :: rest ∧ decode w = .operation i ∧
      exec i (s.setOps rest) = .next t := by
  rcases takeWord_cases s with ⟨⟨p, broken, hs⟩, -⟩ | ⟨⟨c, hs⟩, hops, -⟩ | ⟨c, w, rest, hs, hops, htake⟩
  · rw [step_of_refused hs] at h
    cases h
  · rw [step_of_nothing hs hops] at h
    exact .inl (Host.Outcome.next.inj h).symm
  · cases hw : decode w with
    | operation i =>
      rw [step_of_operation hs hops hw] at h
      exact .inr ⟨c, w, rest, i, hs, hops, hw, h⟩
    | reserved op =>
      simp only [step, htake, hw] at h
      cases h

/-! ## The invariant of RNG -/

section
variable {p : Params} {r : RngState}

theorem RngInv.reset : RngInv p rngReset := by
  constructor <;> simp [rngReset]

theorem RngInv.ctCmp (h : RngInv p r) : RngInv p (rngCtCmp r) := by
  rcases rngCtCmp_cases r with ⟨hc, -, e⟩ | ⟨-, e⟩ <;> rw [e]
  · exact { h with trig_only_awaiting_trigger := fun _ => hc }
  · exact h

/-- Below the budget the increment of OVF does not wrap: the budget fits 8 bits (R7, 40_ranging.md R83). -/
theorem ovf_succ_toNat (hv : p.DistMaxOverflowOk) (h : r.ovf.toNat < p.distMaxOverflow) :
    (BitVec.ofNat 8 (r.ovf.toNat + 1)).toNat = r.ovf.toNat + 1 := by
  obtain ⟨-, hmax⟩ := hv
  rw [BitVec.toNat_ofNat]
  omega

theorem RngInv.ctOvf (hv : p.DistMaxOverflowOk) (h : RngInv p r) : RngInv p (rngCtOvf p r) := by
  have ⟨hpos, _⟩ := hv
  rcases rngCtOvf_cases p r with ⟨-, -, e⟩ | ⟨hc, hlt, e⟩ | ⟨hc, hle, e⟩ | ⟨-, e⟩ <;> rw [e]
  · exact { h with
      trig_only_awaiting_trigger := nofun
      ovf_le := Nat.zero_le _
      ovf_lt_awaiting_echo := fun _ => hpos
      ovf_eq_timed_out := nofun
      ovf_zero_awaiting_trigger := nofun }
  · have hsucc := ovf_succ_toNat hv (h.ovf_lt_awaiting_echo hc)
    exact { h with
      ovf_le := hsucc.trans_le hlt.le
      ovf_lt_awaiting_echo := fun _ => hsucc.trans_lt hlt
      ovf_eq_timed_out := fun hready => by simp [hc] at hready
      ovf_zero_awaiting_trigger := fun htrigger => by simp [hc] at htrigger }
  · have hbelow := h.ovf_lt_awaiting_echo hc
    have hbudget : (BitVec.ofNat 8 (r.ovf.toNat + 1)).toNat = p.distMaxOverflow :=
      (ovf_succ_toNat hv hbelow).trans (Nat.le_antisymm hbelow hle)
    exact { h with
      trig_only_awaiting_trigger := fun ht => by simp [h.trig_only_awaiting_trigger ht] at hc
      ovf_le := hbudget.le
      ovf_lt_awaiting_echo := nofun
      ovf_eq_timed_out := fun _ _ => hbudget
      ovf_zero_awaiting_trigger := nofun }
  · exact h

theorem RngInv.capDone (rise fall : Half) (h : RngInv p r) : RngInv p (rngCapDone rise fall r) := by
  rcases rngCapDone_cases rise fall r with ⟨hc, e⟩ | ⟨-, e⟩ <;> rw [e]
  · exact { h with
      trig_only_awaiting_trigger := fun ht => by simp [h.trig_only_awaiting_trigger ht] at hc
      ovf_lt_awaiting_echo := nofun
      ovf_eq_timed_out := nofun
      ovf_zero_awaiting_trigger := nofun }
  · exact h

/-- A sample lies in [0, DIST_MAX] (41_distance_filter.md R103). -/
theorem sample_bounds (p : Params) (r : RngState) : 0 ≤ sample p r ∧ sample p r ≤ p.distMax := by
  unfold sample
  split
  · exact ⟨Int.natCast_nonneg _, le_rfl⟩
  · exact clamp_bounds _ _ _ (Int.natCast_nonneg _)

/-- Stored in 16 bits a sample keeps its value, since DIST_MAX fits (R7). -/
theorem sample_toNat (hv : p.DistMaxOk) : ((BitVec.ofInt 16 (sample p r)).toNat : Int) = sample p r := by
  obtain ⟨-, hmax⟩ := hv
  obtain ⟨hlo, hhi⟩ := sample_bounds p r
  exact ofInt_toNat_of_fits _ hlo (by omega)

theorem RngInv.poll (hv : p.DistMaxOk) (h : RngInv p r) : RngInv p (rngPoll p r) := by
  rcases rngPoll_cases p r with ⟨-, e⟩ | ⟨-, e⟩ <;> rw [e]
  · have hsample : (BitVec.ofInt 16 (sample p r)).toNat ≤ p.distMax := by
      have hle := (sample_bounds p r).2
      rw [← sample_toNat hv] at hle
      exact_mod_cast hle
    have hfilter := spikeFilter_cases p.filterDelta (BitVec.ofInt 16 (sample p r)) r.raw0 r.raw1
    exact {
      trig_only_awaiting_trigger := fun _ => rfl
      ovf_le := Nat.zero_le _
      ovf_lt_awaiting_echo := nofun
      ovf_eq_timed_out := nofun
      ovf_zero_awaiting_trigger := fun _ => rfl
      raw0_le := hsample
      raw1_le := h.raw0_le
      raw2_le := h.raw1_le
      fdist_le := by
        rcases hfilter with ⟨-, hf⟩ | ⟨-, hf⟩
        · exact (congrArg BitVec.toNat hf).trans_le hsample
        · exact (congrArg BitVec.toNat hf).trans_le h.raw0_le
      fdist_mem := hfilter.imp And.right fun hmiddle => .inl hmiddle.2 }
  · exact h

end

/-! ## The invariant of ACT -/

/-- The duty law keeps a clamped target inside its band: the quotient lies in [0, 2 * SPAN_c] (42_actuation.md R118,
R121). -/
theorem duty_bounds {c : Calibration} (hmag : 0 < c.clampMagnitude) {t : Int} (hlo : -(c.clampMagnitude : Int) ≤ t)
    (hhi : t ≤ c.clampMagnitude) :
    (c.minDuty : Int) ≤ duty c t ∧ duty c t ≤ (c.minDuty : Int) + 2 * c.spanDuty := by
  have hpos : (0 : Int) < c.clampMagnitude := by exact_mod_cast hmag
  have hspan : (0 : Int) ≤ c.spanDuty := Int.natCast_nonneg _
  have hquot_nonneg : 0 ≤ (c.spanDuty : Int) * (t + c.clampMagnitude) / c.clampMagnitude :=
    Int.ediv_nonneg (mul_nonneg hspan (by omega)) hpos.le
  have hquot_le : (c.spanDuty : Int) * (t + c.clampMagnitude) / c.clampMagnitude ≤ 2 * c.spanDuty := by
    apply Int.ediv_le_of_le_mul hpos
    calc (c.spanDuty : Int) * (t + c.clampMagnitude)
        ≤ c.spanDuty * (2 * c.clampMagnitude) := mul_le_mul_of_nonneg_left (by omega) hspan
      _ = 2 * c.spanDuty * c.clampMagnitude := by ring
  unfold duty floorDiv
  constructor <;> omega

/-- The duty of any target register lies in the band of its channel, which fits 16 bits (R8, R121). -/
theorem mappedDuty_inBand {c : Calibration} (hmag : 0 < c.clampMagnitude) (hfits : Band.Fits ⟨c.minDuty, c.spanDuty⟩)
    (tgt : Half) : InBand ⟨c.minDuty, c.spanDuty⟩ (mappedDuty c tgt) := by
  obtain ⟨hlo, hhi⟩ := clamp_bounds tgt.toInt (-(c.clampMagnitude : Int)) c.clampMagnitude (by omega)
  obtain ⟨hmin, hmax⟩ := duty_bounds hmag hlo hhi
  have hstored : ((mappedDuty c tgt).toNat : Int) = duty c (clampTarget c tgt.toInt) :=
    ofInt_toNat_of_fits _ (le_trans (Int.natCast_nonneg _) hmin) (hmax.trans (by exact_mod_cast hfits))
  rw [← clampTarget, ← hstored] at hmin hmax
  exact ⟨by exact_mod_cast hmin, by exact_mod_cast hmax⟩

theorem calibration_clampMagnitude_pos (p : Params) (ch : Channel) : 0 < (calibration p ch).clampMagnitude := by
  cases ch <;> simp [calibration]

theorem centreDuty_inBand {b : Band} (hfits : b.Fits) : InBand b (centreDuty b) := by
  have hstored : (centreDuty b).toNat = b.base + b.span := by
    rw [centreDuty, BitVec.toNat_ofNat]
    omega
  unfold InBand
  omega

section
variable {p : Params} {a : ActState}

theorem ActInv.reset (hv : p.Valid) : ActInv p (actReset p) := by
  obtain ⟨-, -, -, -, -, htilt, hsteer, hspeed, hpan⟩ := hv
  have htilt_stored : (BitVec.ofNat 16 p.tiltDuty).toNat = p.tiltDuty := by
    rw [BitVec.toNat_ofNat]
    omega
  exact {
    shd0_band := centreDuty_inBand hsteer
    shd1_band := centreDuty_inBand hspeed
    shd2_band := centreDuty_inBand hpan
    act0_band := centreDuty_inBand hsteer
    act1_band := centreDuty_inBand hspeed
    act2_band := centreDuty_inBand hpan
    shd3_tilt := htilt_stored
    act3_tilt := htilt_stored
    settled := fun _ => ⟨rfl, rfl, rfl, rfl⟩ }

theorem ActInv.actuationPart (hv : p.Valid) (h : ActInv p a) : ActInv p (actuationPart p a) := by
  obtain ⟨-, -, -, -, -, -, hsteer, hspeed, hpan⟩ := hv
  by_cases htick : ActuationTick a
  · rw [actuationPart_tick p a htick]
    exact { h with
      shd0_band := mappedDuty_inBand (calibration_clampMagnitude_pos p .steering) hsteer a.tgt0
      shd1_band := mappedDuty_inBand (calibration_clampMagnitude_pos p .driveSpeed) hspeed a.tgt1
      shd2_band := mappedDuty_inBand (calibration_clampMagnitude_pos p .cameraPan) hpan a.tgt2
      settled := nofun }
  · rw [actuationPart_no_tick p a htick]
    exact { h with }

theorem ActInv.pwmBoundary (h : ActInv p a) : ActInv p (pwmBoundary a) := by
  rcases pwmBoundary_cases a with ⟨-, e⟩ | ⟨-, e⟩ <;> rw [e]
  · exact { h with
      act0_band := h.shd0_band
      act1_band := h.shd1_band
      act2_band := h.shd2_band
      act3_tilt := h.shd3_tilt
      settled := fun _ => ⟨rfl, rfl, rfl, rfl⟩ }
  · exact h

/-- A bus write stores a target at most, and the invariant leaves the targets free. -/
theorem ActInv.regWrite (i : RegIndex) (v : RegWord) (h : ActInv p a) : ActInv p (regWriteAct i v a) := by
  rcases regWriteAct_cases i v a with ⟨-, e⟩ | ⟨-, e⟩ | ⟨-, e⟩ | ⟨-, e⟩ <;> rw [e] <;> exact { h with }

end

/-! ## The invariants of MODE and TLM -/

theorem ModeInv.reset : ModeInv modeReset := ⟨nofun, fun _ => rfl⟩

theorem ModeInv.buttonA {m : ModeState} (h : ModeInv m) : ModeInv (buttonA m) := by
  rcases buttonA_cases m with ⟨-, e⟩ | ⟨hunarmed, e⟩ <;> rw [e]
  · exact h
  · exact ⟨fun harmed => by simp [hunarmed] at harmed, fun _ => rfl⟩

/-- Either press sets the indicators afresh, so nothing is needed of MODE before it. -/
theorem ModeInv.buttonB (m : ModeState) : ModeInv (buttonB m) := by
  rcases buttonB_cases m with ⟨-, e⟩ | ⟨-, e⟩ <;> rw [e]
  · exact ⟨nofun, fun _ => rfl⟩
  · exact ⟨fun _ => rfl, nofun⟩

theorem TlmInv.reset : TlmInv tlmReset := ⟨by decide⟩

theorem TlmInv.telemetryState {t : TlmState} (sto : StorageAnswer) (h : TlmInv t) : TlmInv (telemetryState sto t) := by
  by_cases htick : TelemetryTick t
  · rw [telemetryState_tick sto t htick]
    exact ⟨by simp⟩
  · rw [telemetryState_no_tick sto t htick]
    have hlt := h.tcyc_lt
    refine ⟨?_⟩
    simp only [BitVec.toNat_ofNat]
    omega

theorem telemetryRecords_ok (fdist : Half) (sto : StorageAnswer) (t : TlmState) :
    ∀ rec ∈ telemetryRecords fdist sto t, RecordOk rec := by
  by_cases hattempt : Attempts t
  · simp [telemetryRecords_attempt fdist sto t hattempt, RecordOk]
  · simp [telemetryRecords_no_attempt fdist sto t hattempt]

/-! ## The invariant of the machine -/

section
variable {s : State}

theorem LegalState.setRng {r : RngState} (h : LegalState s) (hr : RngInv s.params r) : LegalState (s.setRng r) :=
  { h with rng := hr }

theorem LegalState.setAct {a : ActState} (h : LegalState s) (ha : ActInv s.params a) : LegalState (s.setAct a) :=
  { h with act := ha }

theorem LegalState.setMode {m : ModeState} (h : LegalState s) (hm : ModeInv m) : LegalState (s.setMode m) :=
  { h with mode := hm }

theorem LegalState.setTlm {t : TlmState} (h : LegalState s) (ht : TlmInv t) : LegalState (s.setTlm t) :=
  { h with tlm := ht }

theorem LegalState.emit {rs : List OutRecord} (h : LegalState s) (hrs : ∀ rec ∈ rs, RecordOk rec) :
    LegalState (s.emit rs) :=
  { h with trace := List.forall_mem_append.mpr ⟨h.trace, hrs⟩ }

theorem LegalState.setOps (ws : List OpWord) (h : LegalState s) : LegalState (s.setOps ws) := { h with }

theorem LegalState.telemetryPart (sto : StorageAnswer) (h : LegalState s) : LegalState (telemetryPart sto s) :=
  (h.setTlm (h.tlm.telemetryState sto)).emit (telemetryRecords_ok _ _ _)

theorem LegalState.resetElements (hv : s.params.Valid) (h : LegalState s) : LegalState s.resetElements :=
  ⟨.reset, .reset hv, .reset, .reset, h.trace⟩

/-- Under a valid configuration every operation keeps the invariant. -/
theorem exec_next_of_legal (i : Instr) (hv : s.params.Valid) (h : LegalState s) :
    ∃ t, exec i s = .next t ∧ LegalState t := by
  have ⟨hdist, hbudget, _⟩ := hv
  cases i with
  | idle => exact ⟨_, rfl, h⟩
  | ctCmp => exact ⟨_, rfl, h.setRng h.rng.ctCmp⟩
  | ctOvf => exact ⟨_, rfl, h.setRng (h.rng.ctOvf hbudget)⟩
  | capDone rise fall => exact ⟨_, rfl, h.setRng (h.rng.capDone rise fall)⟩
  | poll => exact ⟨_, rfl, h.setRng (h.rng.poll hdist)⟩
  | btOvf sto => exact ⟨_, rfl, (h.setAct (h.act.actuationPart hv)).telemetryPart sto⟩
  | pwmBnd => exact ⟨_, rfl, h.setAct h.act.pwmBoundary⟩
  | btnA => exact ⟨_, rfl, h.setMode h.mode.buttonA⟩
  | btnB => exact ⟨_, rfl, h.setMode (.buttonB _)⟩
  | regRd reg => exact ⟨_, rfl, h.emit (by simp [RecordOk])⟩
  | regWr reg data => exact ⟨_, rfl, h.setAct (h.act.regWrite reg data)⟩
  | reset => exact ⟨_, rfl, h.resetElements hv⟩

end

/-- Settles O13. -/
theorem invariantHoldsAtReset : Obligations.InvariantHoldsAtReset :=
  ⟨.reset, .reset Config.block.valid, .reset, .reset, nofun⟩

/-- Settles O14: the step waits, or runs one operation under an accepted, hence valid, configuration. -/
theorem everyStepKeepsTheInvariant : Obligations.EveryStepKeepsTheInvariant := by
  intro s t h hstep
  rcases step_next_cases hstep with rfl | ⟨c, w, rest, i, hs, -, -, hexec⟩
  · exact h
  · obtain ⟨t', ht', hlegal⟩ := exec_next_of_legal i (valid_of_accepted (s.setOps rest) c hs) (h.setOps rest)
    obtain rfl := Host.Outcome.next.inj (ht'.symm.trans hexec)
    exact hlegal

/-! ## The cycle of CSTATE -/

/-- Settles O23, by what each writer of RNG does to CSTATE. -/
theorem captureStateIsStrictlyCyclic : Obligations.CaptureStateIsStrictlyCyclic := by
  intro i s t h
  rcases exec_rng_cases h with e | ⟨-, e⟩ | ⟨-, e⟩ | ⟨rise, fall, -, e⟩ | ⟨-, e⟩ | ⟨hi, e⟩ <;> rw [e]
  · exact .inl rfl
  · rcases rngCtCmp_cases s.rng with ⟨-, -, e⟩ | ⟨-, e⟩ <;> exact .inl (by rw [e])
  · rcases rngCtOvf_cases s.params s.rng with ⟨hc, -, e⟩ | ⟨-, -, e⟩ | ⟨hc, -, e⟩ | ⟨-, e⟩ <;> rw [e]
    · exact .inr (.inl ⟨hc, rfl⟩)
    · exact .inl rfl
    · exact .inr (.inr (.inl ⟨hc, rfl⟩))
    · exact .inl rfl
  · rcases rngCapDone_cases rise fall s.rng with ⟨hc, e⟩ | ⟨-, e⟩ <;> rw [e]
    · exact .inr (.inr (.inl ⟨hc, rfl⟩))
    · exact .inl rfl
  · rcases rngPoll_cases s.params s.rng with ⟨hc, e⟩ | ⟨-, e⟩ <;> rw [e]
    · exact .inr (.inr (.inr (.inl ⟨hc, rfl⟩)))
    · exact .inl rfl
  · exact .inr (.inr (.inr (.inr ⟨hi, rfl⟩)))

/-! ## The writers of each element

For each function that writes a part of its unit only, the fields R49 gives it: every other field stays. The functions of
MODE and of TLM write the whole of their unit. -/

theorem rngCtCmp_frame (r : RngState) : ∃ trig, rngCtCmp r = { r with trig } := by
  rcases rngCtCmp_cases r with ⟨-, -, e⟩ | ⟨-, e⟩ <;> exact ⟨_, e⟩

theorem rngCtOvf_frame (p : Params) (r : RngState) :
    ∃ cstate trig ovf timeout, rngCtOvf p r = { r with cstate, trig, ovf, timeout } := by
  rcases rngCtOvf_cases p r with ⟨-, -, e⟩ | ⟨-, -, e⟩ | ⟨-, -, e⟩ | ⟨-, e⟩ <;> exact ⟨_, _, _, _, e⟩

theorem rngCapDone_frame (rise fall : Half) (r : RngState) :
    ∃ cstate cap1 cap2 timeout, rngCapDone rise fall r = { r with cstate, cap1, cap2, timeout } := by
  rcases rngCapDone_cases rise fall r with ⟨-, e⟩ | ⟨-, e⟩ <;> exact ⟨_, _, _, _, e⟩

theorem rngPoll_frame (p : Params) (r : RngState) :
    ∃ cstate ovf raw0 raw1 raw2 fdist, rngPoll p r = { r with cstate, ovf, raw0, raw1, raw2, fdist } := by
  rcases rngPoll_cases p r with ⟨-, e⟩ | ⟨-, e⟩ <;> exact ⟨_, _, _, _, _, _, e⟩

theorem actuationPart_frame (p : Params) (a : ActState) :
    ∃ acyc shd0 shd1 shd2 applyPending, actuationPart p a = { a with acyc, shd0, shd1, shd2, applyPending } := by
  by_cases htick : ActuationTick a
  · exact ⟨_, _, _, _, _, actuationPart_tick p a htick⟩
  · exact ⟨_, _, _, _, _, actuationPart_no_tick p a htick⟩

theorem pwmBoundary_frame (a : ActState) :
    ∃ act0 act1 act2 act3 applyPending, pwmBoundary a = { a with act0, act1, act2, act3, applyPending } := by
  rcases pwmBoundary_cases a with ⟨-, e⟩ | ⟨-, e⟩ <;> exact ⟨_, _, _, _, _, e⟩

theorem regWriteAct_frame (i : RegIndex) (v : RegWord) (a : ActState) :
    ∃ tgt0 tgt1 tgt2, regWriteAct i v a = { a with tgt0, tgt1, tgt2 } := by
  rcases regWriteAct_cases i v a with ⟨-, e⟩ | ⟨-, e⟩ | ⟨-, e⟩ | ⟨-, e⟩ <;> exact ⟨_, _, _, e⟩

/-- RESET is a writer of every element (70_reset_and_hazards.md R210). -/
theorem Element.writtenBy_reset (e : Element) : e.WrittenBy .reset := by
  cases e <;> decide

/-- Settles O46: after the frame of its operation, an element that R49 does not give the operation is the same field in
both states. -/
theorem singleWriterOwnership : Obligations.SingleWriterOwnership := by
  intro e i s t h hw
  cases i <;> obtain rfl := Host.Outcome.next.inj h
  case reset => exact absurd e.writtenBy_reset hw
  case' ctCmp => obtain ⟨_, hframe⟩ := rngCtCmp_frame s.rng
  case' ctOvf => obtain ⟨_, _, _, _, hframe⟩ := rngCtOvf_frame s.params s.rng
  case' capDone rise fall => obtain ⟨_, _, _, _, hframe⟩ := rngCapDone_frame rise fall s.rng
  case' poll => obtain ⟨_, _, _, _, _, _, hframe⟩ := rngPoll_frame s.params s.rng
  case' btOvf => obtain ⟨_, _, _, _, _, hframe⟩ := actuationPart_frame s.params s.act
  case' pwmBnd => obtain ⟨_, _, _, _, _, hframe⟩ := pwmBoundary_frame s.act
  case' regWr reg data => obtain ⟨_, _, _, hframe⟩ := regWriteAct_frame reg data s.act
  case' ctCmp | ctOvf | capDone | poll | btOvf | pwmBnd | regWr => rw [hframe]
  all_goals
    revert hw
    cases e <;> simp [Element.value, Element.WrittenBy, Element.writers, Instr.opcode]

/-! ## Reading a target back -/

/-- The index of a target reads as that target, sign-extended (R43). -/
theorem regRead_targetIndex (ch : Channel) (s : State) :
    regRead (targetIndex ch) s = (targetOf s.act ch).signExtend 32 := by
  cases ch <;> rfl

/-- A write at the index of a target stores the low half of DATA there (30_encoding.md R68). -/
theorem targetOf_regWriteAct (ch : Channel) (v : RegWord) (a : ActState) :
    targetOf (regWriteAct (targetIndex ch) v a) ch = v.setWidth 16 := by
  cases ch <;> rfl

/-- Settles O44: sign extension keeps the signed value. -/
theorem targetReadsBackSignExtended : Obligations.TargetReadsBackSignExtended := by
  intro s ch v
  refine ⟨_, _, rfl, ?_, rfl⟩
  rw [regRead_targetIndex, State.setAct_act, targetOf_regWriteAct, BitVec.toInt_signExtend_of_le (by decide),
    BitVec.setWidth_eq_extractLsb' (by decide)]

end Sys2Proof.Machine
end

section
/-! PROOF. The statements of 20_memory.md: what the register accesses leave as it was, the trace that only grows, and the RNG
unit that waits for its POLL. -/

namespace Sys2Proof.Machine

/-! ## The register space -/

/-- Every register word is computed from the four units (10_state.md R43). -/
theorem regRead_congr {s t : State} (hrng : t.rng = s.rng) (hact : t.act = s.act) (hmode : t.mode = s.mode)
    (htlm : t.tlm = s.tlm) (j : RegIndex) : regRead j t = regRead j s := by
  cases hj : registerAt j with
  | none => rw [regRead_reserved j t hj, regRead_reserved j s hj]
  | some r =>
    rw [regRead_of_registerAt j r t hj, regRead_of_registerAt j r s hj]
    cases r <;> simp only [registerContents, hrng, hact, hmode, htlm]

theorem regWriteAct_of_not_target {i : RegIndex} (hi : ¬ IsTargetIndex i) (v : RegWord) (a : ActState) :
    regWriteAct i v a = a := by
  rcases regWriteAct_cases i v a with ⟨h, -⟩ | ⟨h, -⟩ | ⟨h, -⟩ | ⟨-, e⟩
  · exact absurd (.inl h) hi
  · exact absurd (.inr (.inl h)) hi
  · exact absurd (.inr (.inr h)) hi
  · exact e

theorem regWriteAct_idem (i : RegIndex) (v : RegWord) (a : ActState) :
    regWriteAct i v (regWriteAct i v a) = regWriteAct i v a := by
  by_cases hi : IsTargetIndex i
  · rcases hi with rfl | rfl | rfl <;> rfl
  · rw [regWriteAct_of_not_target hi, regWriteAct_of_not_target hi]

/-- A target is held by the register at its own index only, so a bus write leaves every other register's contents. -/
theorem registerContents_regWrite_of_ne {r : Register} {i : RegIndex} (hne : registerIndex r ≠ i) (v : RegWord)
    (s : State) : registerContents r (s.setAct (regWriteAct i v s.act)) = registerContents r s := by
  rcases regWriteAct_cases i v s.act with ⟨rfl, e⟩ | ⟨rfl, e⟩ | ⟨rfl, e⟩ | ⟨-, e⟩ <;> rw [e]
  · cases r
    case tgt0 => exact absurd rfl hne
    all_goals rfl
  · cases r
    case tgt1 => exact absurd rfl hne
    all_goals rfl
  · cases r
    case tgt2 => exact absurd rfl hne
    all_goals rfl
  · rfl

theorem regRead_regWrite_of_ne {i j : RegIndex} (hne : j ≠ i) (v : RegWord) (s : State) :
    regRead j (s.setAct (regWriteAct i v s.act)) = regRead j s := by
  cases hj : registerAt j with
  | none => rw [regRead_reserved j _ hj, regRead_reserved j s hj]
  | some r =>
    have hr : registerIndex r ≠ i := registerIndex_of_registerAt j r hj ▸ hne
    rw [regRead_of_registerAt j r _ hj, regRead_of_registerAt j r s hj, registerContents_regWrite_of_ne hr]

/-- Settles O45. -/
theorem registerAccessHasNoSideEffect : Obligations.RegisterAccessHasNoSideEffect := by
  intro s i v
  refine ⟨⟨_, rfl, rfl, rfl, rfl, rfl, regRead_congr rfl rfl rfl rfl⟩,
    s.setAct (regWriteAct i v s.act), rfl, ?twice, ?ignored, fun _ hj => regRead_regWrite_of_ne hj v s⟩
  case twice => exact congrArg (fun a => Host.Outcome.next (s.setAct a)) (regWriteAct_idem i v s.act)
  case ignored => exact fun hi => congrArg s.setAct (regWriteAct_of_not_target hi v s.act)

/-! ## The trace -/

/-- All that an operation can do to the trace: it stays, or REG_RD or an attempting BT_OVF appends its one record (R58). -/
theorem exec_trace_cases {i : Instr} {s t : State} (h : exec i s = .next t) :
    t.trace = s.trace ∨
    (∃ r, i = .regRd r ∧ t.trace = s.trace ++ [.rd r (regRead r s)]) ∨
    (∃ sto, i = .btOvf sto ∧ Attempts s.tlm ∧ t.trace = s.trace ++ [.tlm (formatLine s.rng.fdist.toNat) sto]) := by
  cases i <;> obtain rfl := Host.Outcome.next.inj h
  case regRd r => exact .inr (.inl ⟨r, rfl, rfl⟩)
  case btOvf sto =>
    by_cases hattempt : Attempts s.tlm
    · exact .inr (.inr ⟨sto, rfl, hattempt, congrArg (s.trace ++ ·) (telemetryRecords_attempt _ _ _ hattempt)⟩)
    · left
      rw [telemetryPart_trace, State.setAct_tlm, telemetryRecords_no_attempt _ _ _ hattempt, List.append_nil,
        State.setAct_trace]
  all_goals exact .inl rfl

/-- Settles O47. -/
theorem traceIsAppendOnly : Obligations.TraceIsAppendOnly := by
  intro i s t h
  rcases exec_trace_cases h with e | ⟨r, hi, e⟩ | ⟨sto, hi, ⟨htick, hhealthy⟩, e⟩
  · exact ⟨[], by rw [e, List.append_nil], Nat.zero_le 1, fun hne => absurd rfl hne⟩
  · exact ⟨_, e, le_rfl, fun _ => .inl ⟨r, hi⟩⟩
  · exact ⟨_, e, le_rfl, fun _ => .inr ⟨⟨sto, hi⟩, htick, hhealthy⟩⟩

/-! ## RNG while READY waits for its POLL -/

/-- In READY_TO_PROCESS the capture timer's operations are ignored (40_ranging.md R86), so only POLL and RESET write RNG. -/
theorem exec_rng_of_ready {i : Instr} {s t : State} (h : exec i s = .next t) (hready : s.rng.cstate = .readyToProcess)
    (hpoll : i ≠ .poll) (hreset : i ≠ .reset) : t.rng = s.rng := by
  rcases exec_rng_cases h with e | ⟨-, e⟩ | ⟨-, e⟩ | ⟨rise, fall, -, e⟩ | ⟨hi, -⟩ | ⟨hi, -⟩
  · exact e
  · exact e.trans (by simpa [hready] using rngCtCmp_cases s.rng)
  · exact e.trans (by simpa [hready] using rngCtOvf_cases s.params s.rng)
  · exact e.trans (by simpa [hready] using rngCapDone_cases rise fall s.rng)
  · exact absurd hi hpoll
  · exact absurd hi hreset

/-- Settles O25, by induction on the operations: each leaves RNG, and so leaves READY_TO_PROCESS to the next. -/
theorem readyWaitsForItsPoll : Obligations.ReadyWaitsForItsPoll := by
  intro is
  induction is with
  | nil => exact fun s _ _ => ⟨s, rfl, rfl⟩
  | cons i is ih =>
    intro s hready hall
    obtain ⟨⟨hpoll, hreset⟩, hrest⟩ := List.forall_mem_cons.mp hall
    obtain ⟨u, hu, -, -⟩ := exec_next_frame i s
    have hrng : u.rng = s.rng := exec_rng_of_ready hu hready hpoll hreset
    obtain ⟨t, ht, htrng⟩ := ih u (by rw [hrng, hready]) hrest
    exact ⟨t, (execAll_cons_of_next i is s u hu).trans ht, htrng.trans hrng⟩

end Sys2Proof.Machine
end

section
/-! PROOF. The statements of 30_encoding.md. The decoder is read through its fields: it answers an operation exactly where OP
holds the operation's code and the operand fields hold its operands. A packed word is the concatenation of its fields, so
masking a word masks each field by itself, and the masks of R71 are themselves packed words. -/

namespace Sys2Proof.Machine

open Sys2Proof.Laws

/-! ## Storage answers and capture data -/

@[simp] theorem storageAnswerOf_storageCode (sto : StorageAnswer) : storageAnswerOf (storageCode sto) = sto := by
  cases sto <;> rfl

@[simp] theorem storageCode_storageAnswerOf (b : BitVec 2) : storageCode (storageAnswerOf b) = b := by
  revert b
  decide

/-- Adding below a multiple of `2 ^ n` a number that fits `n` bits is writing its bits there. -/
theorem toNat_append_eq_add {m n : Nat} (x : BitVec m) (y : BitVec n) :
    (x ++ y).toNat = x.toNat * 2 ^ n + y.toNat := by
  rw [BitVec.toNat_append, ← Nat.shiftLeft_add_eq_or_of_lt y.isLt, Nat.shiftLeft_eq]

theorem captureData_eq_append (rise fall : Half) : captureData rise fall = fall ++ rise := by
  apply BitVec.eq_of_toNat_eq
  have hfits := (fall ++ rise).isLt
  rw [toNat_append_eq_add] at hfits ⊢
  rw [captureData, BitVec.toNat_ofNat, Nat.mod_eq_of_lt hfits]

/-- FALL and RISE are the two halves of DATA (R65). -/
theorem captureData_fields (w : OpWord) : captureData (fieldRise w) (fieldFall w) = fieldData w := by
  rw [captureData_eq_append]
  exact BitVec.extractLsb'_append_extractLsb'_eq_extractLsb' rfl

@[simp] theorem captureData_high (rise fall : Half) : (captureData rise fall).extractLsb' 16 16 = fall := by
  rw [captureData_eq_append, BitVec.extractLsb'_append_eq_left]

theorem fieldFall_eq (w : OpWord) : fieldFall w = (fieldData w).extractLsb' 16 16 := by
  rw [← captureData_fields, captureData_high]

/-! ## The decoder by its fields (R75) -/

/-- The operand fields of the word hold the operands of the operation (R67 to R70). -/
def OperandsIn (w : OpWord) : Instr → Prop
  | .capDone rise fall => fieldRise w = rise ∧ fieldFall w = fall
  | .btOvf sto => fieldSto w = storageCode sto
  | .regRd reg => fieldReg w = reg
  | .regWr reg data => fieldReg w = reg ∧ fieldData w = data
  | .idle | .ctCmp | .ctOvf | .poll | .pwmBnd | .btnA | .btnB | .reset => True

/-- The decoder reads an operation where the fields spell it. -/
theorem decode_of_fields {w : OpWord} {i : Instr} (hop : fieldOp w = i.opcode) (hargs : OperandsIn w i) :
    decode w = .operation i := by
  unfold decode
  rw [hop]
  cases i
  case capDone rise fall =>
    obtain ⟨rfl, rfl⟩ := hargs
    rfl
  case btOvf sto =>
    have hsto : fieldSto w = storageCode sto := hargs
    simp only [Instr.opcode, hsto, storageAnswerOf_storageCode]
    rfl
  case regRd reg => exact congrArg (fun r => Decoded.operation (.regRd r)) hargs
  case regWr reg data =>
    obtain ⟨rfl, rfl⟩ := hargs
    rfl
  all_goals rfl

/-- The decoder reads an operation only where the fields spell it. -/
theorem fields_of_decode {w : OpWord} {i : Instr} (h : decode w = .operation i) :
    fieldOp w = i.opcode ∧ OperandsIn w i := by
  unfold decode at h
  split at h
  case h_13 => cases h
  all_goals
    obtain rfl := Decoded.operation.inj h
    exact ⟨BitVec.eq_of_toNat_eq ‹_›, by simp [OperandsIn]⟩

/-- A word that spells no operation is reserved under its own code (R72). -/
theorem decode_of_not_spells {w : OpWord} (h : ¬ w.SpellsOperation = true) : decode w = .reserved (fieldOp w) := by
  cases hw : decode w with
  | operation i => exact absurd ((decode_operation_iff w).mp ⟨i, hw⟩) h
  | reserved op =>
    unfold decode at hw
    split at hw
    case h_13 => exact hw.symm
    all_goals cases hw

theorem decode_of_reserved_code {w : OpWord} (hlo : 0xB ≤ (fieldOp w).toNat) (hhi : (fieldOp w).toNat ≤ 0xE) :
    decode w = .reserved (fieldOp w) :=
  decode_of_not_spells fun h => (spellsOperation_iff w).mp h ⟨hlo, hhi⟩

/-- Settles O4: each clause is the decoder read by its fields. -/
theorem decodeFollowsTheOperationTable : Obligations.DecodeFollowsTheOperationTable := by
  intro w
  refine ⟨fun h => decode_of_fields h trivial, fun h => decode_of_fields h trivial, fun h => decode_of_fields h trivial,
    fun h => decode_of_fields h ⟨rfl, rfl⟩, fun h => decode_of_fields h trivial, ?storage,
    fun h => decode_of_fields h trivial, fun h => decode_of_fields h trivial, fun h => decode_of_fields h trivial,
    fun h => decode_of_fields h rfl, fun h => decode_of_fields h ⟨rfl, rfl⟩, fun h => decode_of_fields h trivial,
    fun ⟨hlo, hhi⟩ => decode_of_reserved_code hlo hhi⟩
  case storage =>
    have hsto := storageCode_storageAnswerOf (fieldSto w)
    exact fun h => ⟨storageAnswerOf (fieldSto w), decode_of_fields h hsto.symm, hsto⟩

/-! ## Decoding an encoding -/

theorem fieldOp_encode (i : Instr) : fieldOp (encode i) = i.opcode := by
  cases i <;> exact fieldOp_packWord _ _ _ _

theorem operandsIn_encode (i : Instr) : OperandsIn (encode i) i := by
  cases i
  case capDone rise fall => simp [OperandsIn, encode, fieldRise_eq, fieldFall_eq]
  case btOvf sto => exact fieldSto_packWord _ _ _ _
  case regRd reg => exact fieldReg_packWord _ _ _ _
  case regWr reg data => exact ⟨fieldReg_packWord _ _ _ _, fieldData_packWord _ _ _ _⟩
  all_goals trivial

@[simp] theorem decode_encode (i : Instr) : decode (encode i) = .operation i :=
  decode_of_fields (fieldOp_encode i) (operandsIn_encode i)

theorem encode_injective : Function.Injective encode := fun i j h => by
  simpa using congrArg decode h

/-- Settles O1. -/
theorem decodeOfEncodeIsIdentity : Obligations.DecodeOfEncodeIsIdentity := fun i _ => decode_encode i

/-- Where a word is the encoding of an operation, it decodes to that operation. -/
theorem decode_of_encode_eq {ps : List (OpWord × Instr)} (h : ∀ p ∈ ps, encode p.2 = p.1) :
    ∀ p ∈ ps, decode p.1 = .operation p.2 ∧ encode p.2 = p.1 := fun p hp => by
  rw [← h p hp]
  exact ⟨decode_encode p.2, rfl⟩

/-- Settles O5: the sixteen encodings are computed, and the words decode to their operations by `decode_encode`. -/
theorem wordsWrittenOutInTheSpec : Obligations.WordsWrittenOutInTheSpec := decode_of_encode_eq (by decide)

/-! ## Masking a word -/

/-- A packed word is its fields side by side, 0 between them (R65). -/
theorem packWord_eq_append (data : RegWord) (sto : BitVec 2) (reg : RegIndex) (op : Opcode) :
    packWord data sto reg op = data ++ 0#14 ++ sto ++ 0#2 ++ reg ++ 0#4 ++ op := by
  apply BitVec.eq_of_toNat_eq
  rw [packWord_toNat]
  simp only [toNat_append_eq_add, BitVec.toNat_zero]
  ring

theorem opWord_eq_append_fields (w : OpWord) :
    w = fieldData w ++ w.extractLsb' 18 14 ++ fieldSto w ++ w.extractLsb' 14 2 ++ fieldReg w ++ w.extractLsb' 4 4 ++
      fieldOp w := by
  simp only [fieldData, fieldSto, fieldReg, fieldOp, BitVec.extractLsb'_append_extractLsb'_eq_extractLsb',
    BitVec.extractLsb'_eq_self]

/-- Masking by a packed word masks each field by itself and clears the bits outside them. -/
theorem and_packWord (w : OpWord) (data : RegWord) (sto : BitVec 2) (reg : RegIndex) (op : Opcode) :
    w &&& packWord data sto reg op =
      packWord (fieldData w &&& data) (fieldSto w &&& sto) (fieldReg w &&& reg) (fieldOp w &&& op) := by
  conv_lhs => rw [opWord_eq_append_fields w]
  rw [packWord_eq_append, packWord_eq_append]
  refine BitVec.and_append.trans ?_
  simp only [BitVec.and_append, BitVec.and_zero]

/-- A word masked to OP and some of its fields is the packing of those fields. -/
theorem packWord_eq_masked {w : OpWord} {data dataMask : RegWord} {sto stoMask : BitVec 2} {reg regMask : RegIndex}
    {op : Opcode} (hop : fieldOp w = op) (hdata : fieldData w &&& dataMask = data) (hsto : fieldSto w &&& stoMask = sto)
    (hreg : fieldReg w &&& regMask = reg)
    (hmask : usedBits op = packWord dataMask stoMask regMask (BitVec.allOnes 4)) :
    packWord data sto reg op = w &&& usedBits (fieldOp w) := by
  rw [hop, hmask, and_packWord, hdata, hsto, hreg, BitVec.and_allOnes, hop]

/-- The masks of R71 cover OP and, of DATA, STO and REG, the fields that hold an operand. -/
theorem encode_eq_masked {w : OpWord} {i : Instr} (h : decode w = .operation i) :
    encode i = w &&& usedBits (fieldOp w) := by
  obtain ⟨hop, hargs⟩ := fields_of_decode h
  cases i
  case capDone rise fall =>
    obtain ⟨rfl, rfl⟩ := hargs
    have hdata := captureData_fields w
    exact packWord_eq_masked hop (BitVec.and_allOnes.trans hdata.symm) BitVec.and_zero BitVec.and_zero (by decide)
  case btOvf sto =>
    exact packWord_eq_masked hop BitVec.and_zero (BitVec.and_allOnes.trans hargs) BitVec.and_zero (by decide)
  case regRd reg =>
    exact packWord_eq_masked hop BitVec.and_zero BitVec.and_zero (BitVec.and_allOnes.trans hargs) (by decide)
  case regWr reg data =>
    obtain ⟨hreg, hdata⟩ := hargs
    exact packWord_eq_masked hop (BitVec.and_allOnes.trans hdata) BitVec.and_zero (BitVec.and_allOnes.trans hreg)
      (by decide)
  all_goals exact packWord_eq_masked hop BitVec.and_zero BitVec.and_zero BitVec.and_zero (by decide)

/-- Settles O2. -/
theorem encodeOfDecodeClearsReservedBits : Obligations.EncodeOfDecodeClearsReservedBits :=
  fun _ _ h => encode_eq_masked h

/-! ## Words that agree on their used bits (R71) -/

theorem spellsOperation_congr {w w' : OpWord} (hop : fieldOp w = fieldOp w') :
    w.SpellsOperation = true ↔ w'.SpellsOperation = true := by
  rw [spellsOperation_iff, spellsOperation_iff, hop]

/-- Both words, if they spell an operation, mask to its encoding, and two operations with one encoding are the same. -/
theorem decode_congr_of_usedBits {w w' : OpWord} (hop : fieldOp w = fieldOp w')
    (hused : w &&& usedBits (fieldOp w) = w' &&& usedBits (fieldOp w)) : decode w = decode w' := by
  by_cases hspells : w.SpellsOperation = true
  · obtain ⟨i, hi⟩ := (decode_operation_iff w).mpr hspells
    obtain ⟨j, hj⟩ := (decode_operation_iff w').mpr ((spellsOperation_congr hop).mp hspells)
    have hcode : encode i = encode j := by
      rw [encode_eq_masked hi, encode_eq_masked hj, ← hop, hused]
    rw [hi, hj, encode_injective hcode]
  · have hspells' := mt (spellsOperation_congr hop).mpr hspells
    rw [decode_of_not_spells hspells, decode_of_not_spells hspells', hop]

theorem step_of_reserved {s : State} {c : Config} {w : OpWord} {rest : List OpWord} {op : Opcode}
    (hs : s.setup = .accepted c) (hops : s.ops = w :: rest) (hw : decode w = .reserved op) :
    step s = .refused (.reservedOperation op) := by
  simp only [step, takeWord, hs, hops, hw]

/-- The step sees of the presented word only what it decodes to. -/
theorem step_congr_of_decode {w w' : OpWord} (h : decode w = decode w') (s : State) (rest : List OpWord) :
    step (s.setOps (w :: rest)) = step (s.setOps (w' :: rest)) := by
  cases hs : s.setup with
  | refused p broken =>
    have hstep (ws : List OpWord) := step_of_refused (s := s.setOps ws) hs
    rw [hstep, hstep]
  | accepted c =>
    cases hw : decode w with
    | operation i =>
      have hstep {v : OpWord} := step_of_operation (s := s.setOps (v :: rest)) (i := i) hs rfl
      rw [hstep hw, hstep (h ▸ hw)]
      rfl
    | reserved op =>
      have hstep {v : OpWord} := step_of_reserved (s := s.setOps (v :: rest)) (op := op) hs rfl
      rw [hstep hw, hstep (h ▸ hw)]

/-- Settles O3. -/
theorem reservedBitsAreIgnored : Obligations.ReservedBitsAreIgnored := by
  intro w w' hop hused
  have hdecode : decode w = decode w' := decode_congr_of_usedBits hop hused
  exact ⟨fun i hi => hdecode ▸ hi, step_congr_of_decode hdecode⟩

/-! ## Reserved words (R72) -/

theorem run_succ_of_step_refused {M : Host.Core} {s : M.State} {r : M.Refusal} (h : M.step s = .refused r) (n : Nat) :
    M.run (n + 1) s = .refused r := by
  simp only [Host.Core.run, h]

/-- Settles O8. -/
theorem reservedWordIsRefusedForGood : Obligations.ReservedWordIsRefusedForGood := by
  intro s c w rest hs hops hlo hhi
  have hstep := step_of_reserved hs hops (decode_of_reserved_code hlo hhi)
  exact ⟨hstep, run_succ_of_step_refused (M := core) hstep⟩

/-! ## The pseudo-operations (R77) -/

/-- REP n copies its one operation n times. -/
theorem asmLine_rep {n : List Char} {k : Nat} {t : AsmToken} {rest : List AsmToken} {i : Instr}
    (hn : asmNumber n = some k) (hk : 1 ≤ k) (hi : asmSimple (t :: rest) = some [i]) :
    asmLine (.word "REP".toList :: .word n :: .comma :: t :: rest) = some (List.replicate k i) := by
  simp [asmLine, hn, hk, hi]

theorem asmLine_setpoint {m v : List Char} {r : Register} {d : RegWord} (hm : asmSetpoints.lookup m = some r)
    (hbt : m ≠ "BT_OVF".toList) (hrd : m ≠ "REG_RD".toList) (hv : asmData v = some d) :
    asmLine [.word m, .word v] = some [.regWr (registerIndex r) d] := by
  simp only [asmLine, asmSimple, if_neg hbt, if_neg hrd, hm, hv, Option.bind_some, Option.map_some]

theorem asmLine_regWr {a v : List Char} {r : RegIndex} {d : RegWord} (ha : asmRegister a = some r)
    (hv : asmData v = some d) :
    asmLine [.word "REG_WR".toList, .word a, .comma, .word v] = some [.regWr r d] := by
  have hrep : "REG_WR".toList ≠ "REP".toList := by decide
  have hcap : "REG_WR".toList ≠ "CAP_DONE".toList := by decide
  simp only [asmLine, asmSimple, if_neg hrep, if_neg hcap, if_true, ha, hv, Option.bind_some, Option.map_some]

/-- Settles O55. -/
theorem pseudoOperationsExpand : Obligations.PseudoOperationsExpand := by
  refine ⟨by decide, by decide, by decide, by decide, by decide, by decide,
    fun _ _ _ _ _ => asmLine_rep, fun v d hv => ?_⟩
  exact ⟨⟨asmLine_setpoint (r := .tgt0) (by decide) (by decide) (by decide) hv, asmLine_regWr (by decide) hv⟩,
    ⟨asmLine_setpoint (r := .tgt1) (by decide) (by decide) (by decide) hv, asmLine_regWr (by decide) hv⟩,
    ⟨asmLine_setpoint (r := .tgt2) (by decide) (by decide) (by decide) hv, asmLine_regWr (by decide) hv⟩⟩

end Sys2Proof.Machine
end

section
/-! PROOF. The statements of 40_ranging.md: what CT_CMP, CT_OVF, CAP_DONE and POLL do in each state of RNG, the echo wait that
ends at its overflow budget, and the two pairs with POLL whose order matters. First one equation for each row of R86, and the
sample and the filter as R103 and R105 write them; the obligations go through these. -/

namespace Sys2Proof.Machine

/-! ## The configuration, and the ranging operations as writes of RNG -/

@[simp] theorem State.setRng_self (s : State) : s.setRng s.rng = s := rfl

theorem params_of_accepted {s : State} {c : Config} (hs : s.setup = .accepted c) : s.params = c.params :=
  congrArg Setup.params hs

/-- A legal echo wait has some of its budget left (40_ranging.md R83). -/
theorem LegalState.ovf_lt_of_echo {s : State} {c : Config} (h : LegalState s) (hs : s.setup = .accepted c)
    (hc : s.rng.cstate = .awaitingEcho) : s.rng.ovf.toNat < c.params.distMaxOverflow :=
  params_of_accepted hs ▸ h.rng.ovf_lt_awaiting_echo hc

theorem exec_ctCmp (s : State) : exec .ctCmp s = .next (s.setRng (rngCtCmp s.rng)) := rfl

theorem exec_capDone (rise fall : Half) (s : State) :
    exec (.capDone rise fall) s = .next (s.setRng (rngCapDone rise fall s.rng)) := rfl

theorem exec_poll (s : State) : exec .poll s = .next (s.setRng (rngPoll s.params s.rng)) := rfl

theorem exec_ctOvf_of_accepted {s : State} {c : Config} (hs : s.setup = .accepted c) :
    exec .ctOvf s = .next (s.setRng (rngCtOvf c.params s.rng)) := by
  rw [← params_of_accepted hs]
  rfl

/-! ## One equation for each row of R86 -/

section
variable {p : Params} {r : RngState}

theorem rngCtCmp_of_no_trigger (hc : r.cstate = .awaitingTrigger) (ht : r.trig = false) :
    rngCtCmp r = { r with trig := true } := by
  simpa [hc, ht] using rngCtCmp_cases r

theorem rngCtCmp_otherwise (h : ¬ (r.cstate = .awaitingTrigger ∧ r.trig = false)) : rngCtCmp r = r := by
  rcases rngCtCmp_cases r with ⟨hc, ht, -⟩ | ⟨-, e⟩
  · exact absurd ⟨hc, ht⟩ h
  · exact e

theorem rngCtOvf_of_trigger (hc : r.cstate = .awaitingTrigger) (ht : r.trig = true) :
    rngCtOvf p r = { r with trig := false, cstate := .awaitingEcho, ovf := 0 } := by
  simpa [hc, ht] using rngCtOvf_cases p r

theorem rngCtOvf_of_no_trigger (hc : r.cstate = .awaitingTrigger) (ht : r.trig = false) : rngCtOvf p r = r := by
  simpa [hc, ht] using rngCtOvf_cases p r

theorem rngCtOvf_below_budget (hc : r.cstate = .awaitingEcho) (hlt : r.ovf.toNat + 1 < p.distMaxOverflow) :
    rngCtOvf p r = { r with ovf := BitVec.ofNat 8 (r.ovf.toNat + 1) } := by
  simpa [hc, hlt, hlt.not_ge] using rngCtOvf_cases p r

theorem rngCtOvf_at_budget (hc : r.cstate = .awaitingEcho) (hle : p.distMaxOverflow ≤ r.ovf.toNat + 1) :
    rngCtOvf p r =
      { r with ovf := BitVec.ofNat 8 (r.ovf.toNat + 1), cstate := .readyToProcess, timeout := true } := by
  simpa [hc, hle, hle.not_gt] using rngCtOvf_cases p r

theorem rngCtOvf_of_ready (hc : r.cstate = .readyToProcess) : rngCtOvf p r = r := by
  simpa [hc] using rngCtOvf_cases p r

theorem rngCapDone_of_echo (rise fall : Half) (hc : r.cstate = .awaitingEcho) :
    rngCapDone rise fall r = { r with cap1 := rise, cap2 := fall, timeout := false, cstate := .readyToProcess } := by
  simpa [hc] using rngCapDone_cases rise fall r

theorem rngCapDone_of_not_echo (rise fall : Half) (hc : r.cstate ≠ .awaitingEcho) : rngCapDone rise fall r = r := by
  simpa [hc] using rngCapDone_cases rise fall r

theorem rngPoll_of_ready (hc : r.cstate = .readyToProcess) :
    rngPoll p r =
      { r with
        raw2 := r.raw1, raw1 := r.raw0, raw0 := BitVec.ofInt 16 (sample p r),
        fdist := spikeFilter p.filterDelta (BitVec.ofInt 16 (sample p r)) r.raw0 r.raw1,
        cstate := .awaitingTrigger, ovf := 0 } := by
  simpa [hc] using rngPoll_cases p r

theorem rngPoll_of_not_ready (hc : r.cstate ≠ .readyToProcess) : rngPoll p r = r := by
  simpa [hc] using rngPoll_cases p r

end

/-! ## The sample and the filter, as the spec writes them -/

/-- clamp(v, lo, hi) by minimum and maximum. -/
theorem clamp_eq_max_min {lo hi : Int} (v : Int) (h : lo ≤ hi) : clamp v lo hi = max lo (min hi v) := by
  rcases clamp_cases v lo hi with ⟨_, e⟩ | ⟨_, e⟩ | ⟨_, _, e⟩ <;> omega

/-- A timed-out cycle reads as the greatest distance (41_distance_filter.md R101). -/
theorem sample_of_timeout {p : Params} {r : RngState} (h : r.timeout = true) : sample p r = p.distMax := if_pos h

theorem sample_toNat_of_timeout {p : Params} {r : RngState} (hv : p.DistMaxOk) (h : r.timeout = true) :
    (BitVec.ofInt 16 (sample p r)).toNat = p.distMax := by
  have hkept := sample_toNat (r := r) hv
  rw [sample_of_timeout h] at hkept ⊢
  exact_mod_cast hkept

/-- R103 with its floor division and its clamp written out. -/
theorem sample_eq_max_min_fdiv (p : Params) (r : RngState) :
    sample p r =
      if r.timeout = true then (p.distMax : Int)
      else max 0 (min (p.distMax : Int)
        (Int.fdiv (((r.cap2.toNat : Int) - r.cap1.toNat) + r.ovf.toNat * p.timerPeriod) p.ticksPerUnit)) := by
  have hunits : (0 : Int) ≤ p.ticksPerUnit := Int.natCast_nonneg _
  rw [sample, clamp_eq_max_min _ (Int.natCast_nonneg _), floorDiv, elapsedTicks, Int.fdiv_eq_ediv_of_nonneg _ hunits]

/-- R105 with the deviation of the two older samples as an absolute value. -/
theorem spikeFilter_eq_ite_abs (delta : Nat) (r0 r1 r2 : Half) :
    spikeFilter delta r0 r1 r2 = if |(r1.toNat : Int) - r2.toNat| > delta then r0 else r1 := by
  have hspike : |(r1.toNat : Int) - r2.toNat| > delta ↔ delta < ((r1.toNat : Int) - r2.toNat).natAbs := by
    rw [Int.abs_eq_natAbs, gt_iff_lt, Nat.cast_lt]
  simp only [spikeFilter, hspike]

/-! ## Each operation, in every state -/

/-- Settles O16. -/
theorem ctCmpAssertsTheTrigger : Obligations.CtCmpAssertsTheTrigger := by
  intro s
  refine ⟨fun ⟨hc, ht⟩ => ?asserts, fun h => ?ignored⟩
  case asserts =>
    rw [exec_ctCmp, rngCtCmp_of_no_trigger hc ht]
    rfl
  case ignored => rw [exec_ctCmp, rngCtCmp_otherwise h, State.setRng_self]

/-- Settles O17: the budget fits 8 bits, so below it the stored count is OVF + 1 itself. -/
theorem ctOvfTransitions : Obligations.CtOvfTransitions := by
  intro s c hs hlegal
  obtain ⟨-, hbudget, -⟩ := c.valid
  rw [exec_ctOvf_of_accepted hs]
  refine ⟨fun hc ht => ?starts, fun hc ht => ?idle, fun hc => ?echo, fun hc => ?ready⟩
  case starts =>
    rw [rngCtOvf_of_trigger hc ht]
    rfl
  case idle => rw [rngCtOvf_of_no_trigger hc ht, State.setRng_self]
  case echo =>
    have hbelow := hlegal.ovf_lt_of_echo hs hc
    have hsucc := ovf_succ_toNat hbudget hbelow
    refine ⟨BitVec.ofNat 8 (s.rng.ovf.toNat + 1), hsucc, hsucc.trans_le hbelow, fun hlt => ?counts,
      fun hle => ?timesOut⟩
    case counts =>
      rw [rngCtOvf_below_budget hc (hsucc ▸ hlt)]
      rfl
    case timesOut =>
      rw [rngCtOvf_at_budget hc (hsucc ▸ hle)]
      rfl
  case ready => rw [rngCtOvf_of_ready hc, State.setRng_self]

/-- Settles O18. -/
theorem capDoneLatchesBothTimestamps : Obligations.CapDoneLatchesBothTimestamps := by
  intro s rise fall
  refine ⟨fun hc => ?latches, fun hc => ?discarded⟩
  case latches =>
    rw [exec_capDone, rngCapDone_of_echo rise fall hc]
    rfl
  case discarded => rw [exec_capDone, rngCapDone_of_not_echo rise fall hc, State.setRng_self]

/-- Settles O20. -/
theorem pollIgnoredUnlessReady : Obligations.PollIgnoredUnlessReady := by
  intro s hc
  rw [exec_poll, rngPoll_of_not_ready hc, State.setRng_self]

/-- Settles O19: the sample stored in RAW0 keeps its value, since it is at most DIST_MAX. -/
theorem pollProcessesTheCaptureCycle : Obligations.PollProcessesTheCaptureCycle := by
  intro s c hs
  obtain ⟨hdist, -⟩ := c.valid
  refine ⟨fun hc => ⟨BitVec.ofInt 16 (sample c.params s.rng), ?sampled, ?rotated⟩, pollIgnoredUnlessReady s⟩
  case sampled => exact (sample_toNat hdist).trans (sample_eq_max_min_fdiv c.params s.rng)
  case rotated =>
    rw [exec_poll, params_of_accepted hs, rngPoll_of_ready hc, spikeFilter_eq_ite_abs]
    rfl

/-! ## The echo wait -/

/-- The echo wait along k overflows: while the budget lasts each adds one to OVF, and once it is used up the cycle waits in
READY, where no further overflow counts (R82). -/
theorem execAll_ctOvf_of_echo {c : Config} (k : Nat) {s : State} (hs : s.setup = .accepted c)
    (hc : s.rng.cstate = .awaitingEcho) (hlt : s.rng.ovf.toNat < c.params.distMaxOverflow) :
    ∃ t : State, execAll (List.replicate k .ctOvf) s = .next t ∧
      (s.rng.ovf.toNat + k < c.params.distMaxOverflow →
        t.rng.cstate = .awaitingEcho ∧ t.rng.ovf.toNat = s.rng.ovf.toNat + k) ∧
      (c.params.distMaxOverflow ≤ s.rng.ovf.toNat + k →
        t.rng.cstate = .readyToProcess ∧ t.rng.timeout = true ∧ t.rng.ovf.toNat = c.params.distMaxOverflow) := by
  obtain ⟨-, hbudget, -⟩ := c.valid
  induction k generalizing s with
  | zero => exact ⟨s, rfl, fun _ => ⟨hc, rfl⟩, fun hle => absurd hle hlt.not_ge⟩
  | succ k ih =>
    have hsucc := ovf_succ_toNat hbudget hlt
    rw [List.replicate_succ, execAll_cons_of_next _ _ s _ (exec_ctOvf_of_accepted hs)]
    rcases lt_or_ge (s.rng.ovf.toNat + 1) c.params.distMaxOverflow with hnext | hend
    · obtain ⟨t, ht, hwaits, hends⟩ := ih (s := s.setRng (rngCtOvf c.params s.rng)) hs
        (by rw [State.setRng_rng, rngCtOvf_below_budget hc hnext, hc])
        (by rwa [State.setRng_rng, rngCtOvf_below_budget hc hnext, hsucc])
      have hcount : s.rng.ovf.toNat + 1 + k = s.rng.ovf.toNat + (k + 1) := by omega
      rw [State.setRng_rng, rngCtOvf_below_budget hc hnext, hsucc, hcount] at hwaits hends
      exact ⟨t, ht, hwaits, hends⟩
    · obtain ⟨t, ht, hrng⟩ := readyWaitsForItsPoll (List.replicate k .ctOvf) (s.setRng (rngCtOvf c.params s.rng))
        (by rw [State.setRng_rng, rngCtOvf_at_budget hc hend]) (fun i hi => by simp [List.eq_of_mem_replicate hi])
      refine ⟨t, ht, fun hbelow => by omega, fun _ => ?_⟩
      rw [hrng, State.setRng_rng, rngCtOvf_at_budget hc hend]
      exact ⟨rfl, rfl, hsucc.trans (Nat.le_antisymm hlt hend)⟩

/-- Settles O24: a legal echo wait starts below the budget. -/
theorem echoWaitEndsAtTheBudget : Obligations.EchoWaitEndsAtTheBudget :=
  fun _ _ k hs hlegal hc => execAll_ctOvf_of_echo k hs hc (hlegal.ovf_lt_of_echo hs hc)

/-! ## POLL before and after the operation that ends the echo wait (log 9) -/

theorem execAll_pair {i j : Instr} {s u t : State} (hi : exec i s = .next u) (hj : exec j u = .next t) :
    execAll [i, j] s = .next t := by
  rw [execAll_cons_of_next _ _ _ _ hi, execAll_cons_of_next _ _ _ _ hj, execAll_nil]

theorem exec_poll_of_echo {s : State} (hc : s.rng.cstate = .awaitingEcho) : exec .poll s = .next s :=
  pollIgnoredUnlessReady s (by simp [hc])

/-- Settles O52. -/
theorem capDonePollOrderMatters : Obligations.CapDonePollOrderMatters := by
  intro s rise fall hc
  have hcap := exec_capDone rise fall s
  have hpoll := exec_poll_of_echo hc
  refine ⟨_, _, execAll_pair hcap (exec_poll _), execAll_pair hpoll hcap, ?_, ?_⟩
  · rw [rngCapDone_of_echo rise fall hc, rngPoll_of_ready rfl]
    rfl
  · rw [rngCapDone_of_echo rise fall hc]
    rfl

/-- Settles O59: the overflow that uses up the budget sets TIMEOUT, and a POLL after it samples DIST_MAX. -/
theorem ctOvfPollOrderMattersAtTheBudget : Obligations.CtOvfPollOrderMattersAtTheBudget := by
  intro s c hs hc hend
  obtain ⟨hdist, -⟩ := c.valid
  have hovf := exec_ctOvf_of_accepted hs
  have hpoll := exec_poll_of_echo hc
  refine ⟨_, _, execAll_pair hovf (exec_poll _), execAll_pair hpoll hovf, ?_⟩
  rw [rngCtOvf_at_budget hc hend, rngPoll_of_ready rfl, State.setRng_params, params_of_accepted hs]
  exact ⟨rfl, sample_toNat_of_timeout hdist rfl, rfl, rfl, rfl⟩

end Sys2Proof.Machine
end

section
/-! PROOF. The statements of 41_distance_filter.md: the source's three filter examples (R109), and the response to a step and
to a spike (R108). First the two branches of the filter as R105 writes them, and what POLL leaves in the ring and FDIST. -/

namespace Sys2Proof.Machine

/-! ## The two branches of the filter (R105) -/

section
variable {delta : Nat} {r0 r1 r2 : Half}

theorem spikeFilter_of_spike (h : |(r1.toNat : Int) - r2.toNat| > delta) : spikeFilter delta r0 r1 r2 = r0 := by
  rw [spikeFilter_eq_ite_abs, if_pos h]

theorem spikeFilter_of_consistent (h : |(r1.toNat : Int) - r2.toNat| ≤ delta) : spikeFilter delta r0 r1 r2 = r1 := by
  rw [spikeFilter_eq_ite_abs, if_neg h.not_gt]

/-- Where newest and middle differ, the output tells which branch was taken. -/
theorem spikeFilter_eq_newest_iff (hne : r0 ≠ r1) :
    spikeFilter delta r0 r1 r2 = r0 ↔ |(r1.toNat : Int) - r2.toNat| > delta := by
  rw [spikeFilter_eq_ite_abs, ite_eq_left_iff, not_imp_comm, imp_iff_right hne.symm]

theorem spikeFilter_eq_middle_iff (hne : r0 ≠ r1) :
    spikeFilter delta r0 r1 r2 = r1 ↔ |(r1.toNat : Int) - r2.toNat| ≤ delta := by
  rw [spikeFilter_eq_ite_abs, ite_eq_right_iff, imp_iff_not hne, gt_iff_lt, not_lt]

/-- Two equal older samples are never a spike. -/
theorem spikeFilter_middle_oldest_eq (delta : Nat) (r0 r1 : Half) : spikeFilter delta r0 r1 r1 = r1 :=
  spikeFilter_of_consistent (by simp)

/-- Two equal newer samples are the output on either branch. -/
theorem spikeFilter_newest_middle_eq (delta : Nat) (r1 r2 : Half) : spikeFilter delta r1 r1 r2 = r1 := by
  rw [spikeFilter_eq_ite_abs, ite_self]

end

/-- Settles O21: the first two examples hold exactly while their deviations, 7 and 9, are within the delta, and the third
exactly while its deviation, 122, exceeds it. -/
theorem filterExamplesHoldExactlyInTheRange : Obligations.FilterExamplesHoldExactlyInTheRange := by
  intro delta
  have hdev7 : |((19 : Half).toNat : Int) - (26 : Half).toNat| = 7 := by decide
  have hdev9 : |((28 : Half).toNat : Int) - (19 : Half).toNat| = 9 := by decide
  have hdev122 : |((150 : Half).toNat : Int) - (28 : Half).toNat| = 122 := by decide
  rw [spikeFilter_eq_middle_iff (by decide), spikeFilter_eq_middle_iff (by decide), spikeFilter_eq_newest_iff (by decide),
    hdev7, hdev9, hdev122]
  omega

/-! ## The ring and FDIST after POLL (R88) -/

/-- POLL in READY moves the two newer samples along, and FDIST is the filter of the ring it leaves (R110). -/
theorem exec_poll_ring {s u : State} {c : Config} (hs : s.setup = .accepted c) (hc : s.rng.cstate = .readyToProcess)
    (h : exec .poll s = .next u) :
    u.rng.raw1 = s.rng.raw0 ∧ u.rng.raw2 = s.rng.raw1 ∧
      u.rng.fdist = spikeFilter c.params.filterDelta u.rng.raw0 u.rng.raw1 u.rng.raw2 := by
  rw [exec_poll, params_of_accepted hs, rngPoll_of_ready hc] at h
  cases h
  exact ⟨rfl, rfl, rfl⟩

/-- Settles O22: with x the first sample, the ring is (x, a, a) after the first POLL and (newest, x, a) after the second. -/
theorem stepAndSpikeResponse : Obligations.StepAndSpikeResponse := by
  intro s u s' u' c a hs hs' hc hc' hraw0 hraw1 _ hfirst hkept0 hkept1 _ hsecond
  obtain ⟨hmiddle, holdest, hfdist⟩ := exec_poll_ring hs hc hfirst
  obtain ⟨hmiddle', holdest', hfdist'⟩ := exec_poll_ring hs' hc' hsecond
  rw [hmiddle, holdest, hraw0, hraw1] at hfdist
  rw [hmiddle', holdest', hkept0, hkept1, hmiddle, hraw0] at hfdist'
  rw [hfdist, hfdist']
  refine ⟨spikeFilter_middle_oldest_eq _ _ _, fun hstep => ?step, fun hback hspike => ?spike, fun _ hsmall => ?small⟩
  case step => rw [hstep, spikeFilter_newest_middle_eq]
  case spike => rw [spikeFilter_of_spike hspike, hback]
  case small => exact spikeFilter_of_consistent hsmall

end Sys2Proof.Machine
end

section
/-! PROOF. The statements of 42_actuation.md: the mapping law on the band of a channel, the clamp, what BT_OVF and PWM_BND do
to ACT, the way of a setpoint to its output, the counters of BT_OVF, and that no other unit reads MODE. The law is proved for
any calibration with a positive magnitude; `calibration` has one for every channel, and in a valid configuration its band
fits 16 bits. -/

namespace Sys2Proof.Machine

/-! ## The operations that write ACT -/

theorem exec_btOvf (sto : StorageAnswer) (s : State) :
    exec (.btOvf sto) s = .next (telemetryPart sto (s.setAct (actuationPart s.params s.act))) := rfl

theorem exec_pwmBnd (s : State) : exec .pwmBnd s = .next (s.setAct (pwmBoundary s.act)) := rfl

theorem exec_regWr (i : RegIndex) (v : RegWord) (s : State) :
    exec (.regWr i v) s = .next (s.setAct (regWriteAct i v s.act)) := rfl

/-! ## The mapping law (R118) -/

/-- The law with its floor division written out. -/
theorem duty_eq_fdiv (c : Calibration) (t : Int) :
    duty c t = c.minDuty + Int.fdiv (c.spanDuty * (t + c.clampMagnitude)) c.clampMagnitude := by
  rw [duty, floorDiv, Int.fdiv_eq_ediv_of_nonneg _ (Int.natCast_nonneg _)]

section
variable {c : Calibration} (hmag : 0 < c.clampMagnitude)
include hmag

/-- Where MAX_c divides the product the law is exact. -/
theorem duty_eq_of_mul_eq {t k : Int} (h : (c.spanDuty : Int) * (t + c.clampMagnitude) = k * c.clampMagnitude) :
    duty c t = c.minDuty + k := by
  have hne : (c.clampMagnitude : Int) ≠ 0 := by exact_mod_cast hmag.ne'
  rw [duty, floorDiv, h, Int.mul_ediv_cancel _ hne]

theorem duty_zero : duty c 0 = c.minDuty + c.spanDuty :=
  duty_eq_of_mul_eq hmag (by rw [zero_add])

theorem duty_neg_magnitude : duty c (-(c.clampMagnitude : Int)) = c.minDuty := by
  rw [duty_eq_of_mul_eq hmag (k := 0) (by ring), add_zero]

theorem duty_magnitude : duty c c.clampMagnitude = c.minDuty + 2 * c.spanDuty :=
  duty_eq_of_mul_eq hmag (by ring)

/-- SPAN_c is not negative, and floor division by MAX_c keeps the order. -/
theorem duty_mono {t t' : Int} (h : t ≤ t') : duty c t ≤ duty c t' := by
  have hprod : (c.spanDuty : Int) * (t + c.clampMagnitude) ≤ c.spanDuty * (t' + c.clampMagnitude) :=
    mul_le_mul_of_nonneg_left (by omega) (Int.natCast_nonneg _)
  exact add_le_add_right (Int.ediv_le_ediv (by exact_mod_cast hmag) hprod) _

end

/-- In a valid configuration the band of every channel fits 16 bits (R8). -/
theorem calibration_fits {p : Params} (hv : p.Valid) (ch : Channel) :
    Band.Fits ⟨(calibration p ch).minDuty, (calibration p ch).spanDuty⟩ := by
  obtain ⟨-, -, -, -, -, -, hsteer, hspeed, hpan⟩ := hv
  cases ch with
  | steering => exact hsteer
  | driveSpeed => exact hspeed
  | cameraPan => exact hpan

/-- Settles O27. -/
theorem dutyLawOnTheBand : Obligations.DutyLawOnTheBand := by
  intro p
  refine ⟨rfl, rfl, rfl, fun ch => ?_⟩
  have hmag := calibration_clampMagnitude_pos p ch
  refine ⟨fun t hlo hhi => ?_, duty_zero hmag, duty_neg_magnitude hmag, duty_magnitude hmag⟩
  obtain ⟨hmin, hmax⟩ := duty_bounds hmag hlo hhi
  exact ⟨duty_eq_fdiv _ t, hmin, hmax, fun hv => hmax.trans (by exact_mod_cast calibration_fits hv ch)⟩

/-- Settles O28. -/
theorem dutyIsMonotone : Obligations.DutyIsMonotone := by
  intro p ch
  have hmag := calibration_clampMagnitude_pos p ch
  exact ⟨fun _ _ _ hle _ => duty_mono hmag hle, duty_zero hmag⟩

/-! ## The clamp (R117) -/

section
variable (c : Calibration) (t : Int)

theorem clampTarget_eq_max_min : clampTarget c t = max (-(c.clampMagnitude : Int)) (min (c.clampMagnitude : Int) t) :=
  clamp_eq_max_min t (by omega)

theorem clampTarget_of_gt (h : t > c.clampMagnitude) : clampTarget c t = c.clampMagnitude := by
  rw [clampTarget_eq_max_min]
  omega

theorem clampTarget_of_lt (h : t < -(c.clampMagnitude : Int)) : clampTarget c t = -(c.clampMagnitude : Int) := by
  rw [clampTarget_eq_max_min]
  omega

theorem clampTarget_bounds : -(c.clampMagnitude : Int) ≤ clampTarget c t ∧ clampTarget c t ≤ c.clampMagnitude :=
  clamp_bounds t _ _ (by omega)

theorem clampTarget_of_mem (hlo : -(c.clampMagnitude : Int) ≤ t) (hhi : t ≤ c.clampMagnitude) : clampTarget c t = t := by
  rw [clampTarget_eq_max_min, min_eq_right hhi, max_eq_right hlo]

end

/-- Settles O29: a clamped target lies in the range, where the clamp changes nothing. -/
theorem clampIsIdempotent : Obligations.ClampIsIdempotent := by
  intro p ch t
  obtain ⟨hlo, hhi⟩ := clampTarget_bounds (calibration p ch) t
  exact ⟨fun h => congrArg (duty _) (clampTarget_of_gt _ t h), fun h => congrArg (duty _) (clampTarget_of_lt _ t h),
    clampTarget_of_mem _ _ hlo hhi⟩

/-! ## The duty of a target register (R117, R118) -/

/-- Stored in 16 bits the duty keeps its value, since the band fits (R8). -/
theorem mappedDuty_toNat {p : Params} (hv : p.Valid) (ch : Channel) (tgt : Half) :
    ((mappedDuty (calibration p ch) tgt).toNat : Int) =
      duty (calibration p ch) (clampTarget (calibration p ch) tgt.toInt) := by
  obtain ⟨hlo, hhi⟩ := clampTarget_bounds (calibration p ch) tgt.toInt
  obtain ⟨hmin, hmax⟩ := duty_bounds (calibration_clampMagnitude_pos p ch) hlo hhi
  exact ofInt_toNat_of_fits _ (le_trans (Int.natCast_nonneg _) hmin)
    (hmax.trans (by exact_mod_cast calibration_fits hv ch))

/-- The stored duty with the clamp and the floor division written out. -/
theorem mappedDuty_toNat_eq_fdiv {p : Params} (hv : p.Valid) (ch : Channel) (tgt : Half) :
    ((mappedDuty (calibration p ch) tgt).toNat : Int) =
      (calibration p ch).minDuty +
        Int.fdiv ((calibration p ch).spanDuty *
          (max (-((calibration p ch).clampMagnitude : Int)) (min ((calibration p ch).clampMagnitude : Int) tgt.toInt) +
            (calibration p ch).clampMagnitude)) (calibration p ch).clampMagnitude := by
  rw [mappedDuty_toNat hv, duty_eq_fdiv, clampTarget_eq_max_min]

/-! ## The actuation part, channel by channel (R119) -/

/-- ACYC counts modulo ACT_DIV. -/
theorem actuationPart_acyc (p : Params) (a : ActState) :
    (actuationPart p a).acyc.toNat = (a.acyc.toNat + 1) % actDiv := by
  rcases acyc_cases a with ⟨htick, hacyc⟩ | ⟨htick, hacyc⟩
  · rw [actuationPart_tick p a htick, hacyc]
    rfl
  · rw [actuationPart_no_tick p a htick, hacyc]
    rfl

section
variable {p : Params} {a : ActState}

theorem actuationTick_of_acyc (h : a.acyc = 1) : ActuationTick a := by
  simp [ActuationTick, h]

theorem not_actuationTick_of_acyc (h : a.acyc = 0) : ¬ ActuationTick a := by
  simp [ActuationTick, h]

theorem shadowOf_actuationPart_tick (h : ActuationTick a) (ch : Channel) :
    shadowOf (actuationPart p a) ch = mappedDuty (calibration p ch) (targetOf a ch) := by
  rw [actuationPart_tick p a h]
  cases ch <;> rfl

theorem shadowOf_actuationPart_no_tick (h : ¬ ActuationTick a) (ch : Channel) :
    shadowOf (actuationPart p a) ch = shadowOf a ch := by
  rw [actuationPart_no_tick p a h]
  cases ch <;> rfl

theorem applyPending_actuationPart_tick (h : ActuationTick a) : (actuationPart p a).applyPending = true := by
  rw [actuationPart_tick p a h]

theorem applyPending_actuationPart_no_tick (h : ¬ ActuationTick a) :
    (actuationPart p a).applyPending = a.applyPending := by
  rw [actuationPart_no_tick p a h]

/-- One of two consecutive BT_OVF is an actuation tick: the second exactly where the first is not. -/
theorem actuationTick_actuationPart_iff : ActuationTick (actuationPart p a) ↔ ¬ ActuationTick a := by
  rcases acyc_cases a with ⟨-, hacyc⟩ | ⟨-, hacyc⟩ <;> simp [ActuationTick, actuationPart_acyc, hacyc]

end

theorem targetOf_actuationPart (p : Params) (a : ActState) (ch : Channel) :
    targetOf (actuationPart p a) ch = targetOf a ch := by
  obtain ⟨_, _, _, _, _, hframe⟩ := actuationPart_frame p a
  rw [hframe]
  cases ch <;> rfl

theorem activeOf_actuationPart (p : Params) (a : ActState) (ch : Channel) :
    activeOf (actuationPart p a) ch = activeOf a ch := by
  obtain ⟨_, _, _, _, _, hframe⟩ := actuationPart_frame p a
  rw [hframe]
  cases ch <;> rfl

/-- Channel 3 has no target, and BT_OVF writes neither of its duties (R120). -/
theorem actuationPart_tilt (p : Params) (a : ActState) :
    (actuationPart p a).shd3 = a.shd3 ∧ (actuationPart p a).act3 = a.act3 := by
  obtain ⟨_, _, _, _, _, hframe⟩ := actuationPart_frame p a
  rw [hframe]
  exact ⟨rfl, rfl⟩

/-- Settles O26. -/
theorem btOvfActuationPart : Obligations.BtOvfActuationPart := by
  intro s c sto hs
  refine ⟨_, exec_btOvf sto s, ?_⟩
  rw [params_of_accepted hs, telemetryPart_act, State.setAct_act]
  obtain ⟨hshd3, hact3⟩ := actuationPart_tilt c.params s.act
  refine ⟨fun hacyc => ?tick, fun hacyc => ?counts,
    fun ch => ⟨targetOf_actuationPart _ _ ch, activeOf_actuationPart _ _ ch⟩,
    hshd3, hact3, rfl, rfl, rfl, rfl⟩
  case tick =>
    rw [actuationPart_tick _ _ (actuationTick_of_acyc hacyc)]
    exact ⟨rfl, rfl, mappedDuty_toNat_eq_fdiv c.valid .steering _, mappedDuty_toNat_eq_fdiv c.valid .driveSpeed _,
      mappedDuty_toNat_eq_fdiv c.valid .cameraPan _⟩
  case counts =>
    have htick := not_actuationTick_of_acyc hacyc
    refine ⟨?_, applyPending_actuationPart_no_tick htick, shadowOf_actuationPart_no_tick htick⟩
    rw [actuationPart_no_tick _ _ htick, hacyc]
    rfl

/-! ## PWM_BND (R123) -/

/-- Settles O30. -/
theorem pwmBoundaryAppliesAllChannels : Obligations.PwmBoundaryAppliesAllChannels := by
  intro s
  rw [exec_pwmBnd]
  rcases pwmBoundary_cases s.act with ⟨hpending, e⟩ | ⟨hpending, e⟩ <;> rw [e]
  · exact ⟨fun _ => rfl, fun hclear => absurd (hpending.symm.trans hclear) nofun⟩
  · exact ⟨fun hset => absurd (hpending.symm.trans hset) nofun, fun _ => rfl⟩

theorem activeOf_pwmBoundary {a : ActState} (h : a.applyPending = true) (ch : Channel) :
    activeOf (pwmBoundary a) ch = shadowOf a ch := by
  rcases pwmBoundary_cases a with ⟨-, e⟩ | ⟨hclear, -⟩
  · rw [e]
    cases ch <;> rfl
  · exact absurd (h.symm.trans hclear) nofun

/-! ## From a setpoint to the output (R124) -/

/-- A bus write changes no duty: it stores a target at most. -/
theorem regWriteAct_duties (i : RegIndex) (v : RegWord) (a : ActState) :
    (∀ ch, shadowOf (regWriteAct i v a) ch = shadowOf a ch ∧ activeOf (regWriteAct i v a) ch = activeOf a ch) ∧
      (regWriteAct i v a).shd3 = a.shd3 ∧ (regWriteAct i v a).act3 = a.act3 := by
  obtain ⟨_, _, _, hframe⟩ := regWriteAct_frame i v a
  rw [hframe]
  exact ⟨fun ch => by cases ch <;> exact ⟨rfl, rfl⟩, rfl, rfl⟩

/-- After two actuation parts the shadow duties are mapped from the targets and an apply is pending, whatever ACYC was: the
one that is no tick leaves the targets to a later tick, and leaves the duties of an earlier one. -/
theorem actuationPart_twice (p : Params) (a : ActState) :
    (∀ ch, shadowOf (actuationPart p (actuationPart p a)) ch = mappedDuty (calibration p ch) (targetOf a ch)) ∧
      (actuationPart p (actuationPart p a)).applyPending = true := by
  by_cases htick : ActuationTick a
  · have hnext : ¬ ActuationTick (actuationPart p a) := fun h => actuationTick_actuationPart_iff.mp h htick
    rw [applyPending_actuationPart_no_tick hnext]
    exact ⟨fun ch => (shadowOf_actuationPart_no_tick hnext ch).trans (shadowOf_actuationPart_tick htick ch),
      applyPending_actuationPart_tick htick⟩
  · have hnext : ActuationTick (actuationPart p a) := actuationTick_actuationPart_iff.mpr htick
    refine ⟨fun ch => ?_, applyPending_actuationPart_tick hnext⟩
    rw [shadowOf_actuationPart_tick hnext, targetOf_actuationPart]

/-- ACT along a bus write, two BT_OVF and one PWM_BND. -/
theorem execAll_setpoint_act (i : RegIndex) (v : RegWord) (x y : StorageAnswer) (s : State) :
    ∃ t, execAll [.regWr i v, .btOvf x, .btOvf y, .pwmBnd] s = .next t ∧
      t.act = pwmBoundary (actuationPart s.params (actuationPart s.params (regWriteAct i v s.act))) :=
  ⟨_, rfl, rfl⟩

/-- Settles O31. -/
theorem setpointReachesTheOutput : Obligations.SetpointReachesTheOutput := by
  intro s c ch v x y hs
  refine ⟨⟨_, exec_regWr _ v s, regWriteAct_duties _ v s.act⟩, ?_⟩
  obtain ⟨t, ht, hact⟩ := execAll_setpoint_act (targetIndex ch) v x y s
  obtain ⟨hshadow, hpending⟩ := actuationPart_twice s.params (regWriteAct (targetIndex ch) v s.act)
  refine ⟨t, ht, ?_⟩
  rw [hact, activeOf_pwmBoundary hpending, hshadow, targetOf_regWriteAct, params_of_accepted hs,
    mappedDuty_toNat_eq_fdiv c.valid]

/-! ## The counters of BT_OVF (R127, R151) -/

/-- TCYC counts modulo TLM_DIV: below it the count fits 5 bits. -/
theorem telemetryState_tcyc (sto : StorageAnswer) {t : TlmState} (hlt : t.tcyc.toNat < tlmDiv) :
    (telemetryState sto t).tcyc.toNat = (t.tcyc.toNat + 1) % tlmDiv := by
  by_cases htick : TelemetryTick t
  · rw [telemetryState_tick sto t htick, htick]
    rfl
  · have hnext : t.tcyc.toNat + 1 < tlmDiv := lt_of_le_of_ne hlt htick
    rw [telemetryState_no_tick sto t htick, BitVec.toNat_ofNat, Nat.mod_eq_of_lt hnext,
      Nat.mod_eq_of_lt (hnext.trans (by decide))]

theorem eq_btOvf_of_isBtOvf {i : Instr} (h : isBtOvf i = true) : ∃ sto, i = .btOvf sto := by
  cases i with
  | btOvf sto => exact ⟨sto, rfl⟩
  | _ => cases h

/-- BT_OVF and RESET are the only writers of the two counters (10_state.md R49). -/
theorem not_writtenBy_counters {i : Instr} (hbt : isBtOvf i = false) (hreset : i ≠ .reset) :
    ¬ Element.acyc.WrittenBy i ∧ ¬ Element.tcyc.WrittenBy i := by
  cases i with
  | btOvf sto => cases hbt
  | reset => exact absurd rfl hreset
  | _ => simp [Element.WrittenBy, Element.writers, Instr.opcode]

/-- Both counters go up by one modulo their divisor at a BT_OVF, and stay at any other operation but RESET. -/
theorem exec_counters {i : Instr} {s t : State} (h : exec i s = .next t) (hreset : i ≠ .reset)
    (hlt : s.tlm.tcyc.toNat < 25) :
    t.act.acyc.toNat = (s.act.acyc.toNat + if isBtOvf i then 1 else 0) % 2 ∧
      t.tlm.tcyc.toNat = (s.tlm.tcyc.toNat + if isBtOvf i then 1 else 0) % 25 := by
  cases hbt : isBtOvf i with
  | true =>
    obtain ⟨sto, rfl⟩ := eq_btOvf_of_isBtOvf hbt
    rw [exec_btOvf] at h
    obtain rfl := Host.Outcome.next.inj h
    exact ⟨actuationPart_acyc _ _, telemetryState_tcyc sto hlt⟩
  | false =>
    obtain ⟨hacyc, htcyc⟩ := not_writtenBy_counters hbt hreset
    have hacyc_kept : t.act.acyc.toNat = s.act.acyc.toNat := singleWriterOwnership _ i s t h hacyc
    have htcyc_kept : t.tlm.tcyc.toNat = s.tlm.tcyc.toNat := singleWriterOwnership _ i s t h htcyc
    rw [hacyc_kept, htcyc_kept]
    exact ⟨(Nat.mod_eq_of_lt s.act.acyc.isLt).symm, (Nat.mod_eq_of_lt hlt).symm⟩

/-- Settles O50, by induction on the operations: TCYC stays below 25, so the count goes on from the next state. -/
theorem countersCountEveryBtOvf : Obligations.CountersCountEveryBtOvf := by
  intro is
  induction is with
  | nil => exact fun s _ hlt => ⟨s, rfl, (Nat.mod_eq_of_lt s.act.acyc.isLt).symm, (Nat.mod_eq_of_lt hlt).symm⟩
  | cons i is ih =>
    intro s hall hlt
    obtain ⟨hreset, hrest⟩ := List.forall_mem_cons.mp hall
    obtain ⟨u, hu, -, -⟩ := exec_next_frame i s
    obtain ⟨hacyc, htcyc⟩ := exec_counters hu hreset hlt
    obtain ⟨t, ht, htacyc, httcyc⟩ := ih u hrest (htcyc ▸ Nat.mod_lt _ (by decide))
    refine ⟨t, (execAll_cons_of_next i is s u hu).trans ht, ?_⟩
    rw [htacyc, httcyc, hacyc, htcyc, List.countP_cons]
    omega

/-! ## MODE is not wired to the other units (R125) -/

/-- Settles O49: of the operations that do not write MODE only REG_RD reads it, and BTN_A, BTN_B and RESET write nothing
else from it, so outside MODE both runs write the same by definition. -/
theorem modeIsReadByNoOtherUnit : Obligations.ModeIsReadByNoOtherUnit := by
  intro i s m hread
  cases i with
  | regRd r => exact absurd rfl (hread r)
  | _ => exact ⟨_, _, rfl, rfl, rfl⟩

end Sys2Proof.Machine
end

section
/-! PROOF. The statements of 43_mode.md: what the two buttons do to MODE, the cycle of the five modes, and the two orders of a
press of both buttons. The cycle is addition of one to the code modulo 5 (R135), so that k advances return to a mode exactly
when 5 divides k (R140); the machine's runs of BTN_A are iterations of `nextMode`. -/

namespace Sys2Proof.Machine

/-! ## The cycle of the five modes -/

theorem modeCode_lt (m : OperatingMode) : (modeCode m).toNat < 5 := by cases m <;> decide

theorem modeOfNumber_modeCode (m : OperatingMode) : modeOfNumber (modeCode m).toNat = m := by cases m <;> rfl

theorem modeCode_toNat_injective : Function.Injective fun m => (modeCode m).toNat :=
  Function.LeftInverse.injective modeOfNumber_modeCode

theorem modeCode_nextMode (m : OperatingMode) : (modeCode (nextMode m)).toNat = ((modeCode m).toNat + 1) % 5 := by
  cases m <;> rfl

theorem modeCode_iterate_nextMode (k : Nat) (m : OperatingMode) :
    (modeCode (nextMode^[k] m)).toNat = ((modeCode m).toNat + k) % 5 := by
  induction k with
  | zero => exact (Nat.mod_eq_of_lt (modeCode_lt m)).symm
  | succ k ih => rw [Function.iterate_succ_apply', modeCode_nextMode, ih, Nat.mod_add_mod, Nat.add_assoc]

/-- Every mode has order exactly 5 under advancing (R140). -/
theorem iterate_nextMode_eq_self_iff (k : Nat) (m : OperatingMode) : nextMode^[k] m = m ↔ 5 ∣ k := by
  have hlt := modeCode_lt m
  rw [← modeCode_toNat_injective.eq_iff, modeCode_iterate_nextMode]
  omega

/-- Four advances undo one, before it and after it. -/
theorem nextMode_bijective : Function.Bijective nextMode := by
  have hfive (m : OperatingMode) : nextMode^[5] m = m := (iterate_nextMode_eq_self_iff 5 m).mpr dvd_rfl
  refine Function.bijective_iff_has_inverse.mpr ⟨nextMode^[4], fun m => ?_, fun m => ?_⟩
  · rw [← Function.iterate_succ_apply, hfive]
  · rw [← Function.iterate_succ_apply' nextMode, hfive]

/-! ## The buttons, by the row of R138 -/

theorem exec_btnA (s : State) : exec .btnA s = .next (s.setMode (buttonA s.mode)) := rfl

theorem exec_btnB (s : State) : exec .btnB s = .next (s.setMode (buttonB s.mode)) := rfl

section
variable {s : State}

theorem exec_btnA_of_unarmed (h : s.mode.armed = false) :
    exec .btnA s = .next (s.setMode { s.mode with mode := nextMode s.mode.mode, led := modeCode (nextMode s.mode.mode) }) := by
  rcases buttonA_cases s.mode with ⟨harmed, -⟩ | ⟨-, e⟩
  · simp [h] at harmed
  · rw [exec_btnA, e]
    rfl

theorem exec_btnA_of_armed (h : s.mode.armed = true) : exec .btnA s = .next s := by
  rcases buttonA_cases s.mode with ⟨-, e⟩ | ⟨hunarmed, -⟩
  · rw [exec_btnA, e]
    rfl
  · simp [h] at hunarmed

theorem exec_btnB_of_unarmed (h : s.mode.armed = false) :
    exec .btnB s = .next (s.setMode { s.mode with armed := true, led := 0b111 }) := by
  rcases buttonB_cases s.mode with ⟨harmed, -⟩ | ⟨-, e⟩
  · simp [h] at harmed
  · rw [exec_btnB, e]
    rfl

theorem exec_btnB_of_armed (h : s.mode.armed = true) :
    exec .btnB s = .next (s.setMode { armed := false, mode := .none, led := 0b000 }) := by
  rcases buttonB_cases s.mode with ⟨-, e⟩ | ⟨hunarmed, -⟩
  · rw [exec_btnB, e]
  · simp [h] at hunarmed

/-- While unarmed, k presses of button A are k advances: each leaves the state unarmed for the next. -/
theorem execAll_btnA_of_unarmed (k : Nat) (h : s.mode.armed = false) :
    ∃ t : State, execAll (List.replicate k .btnA) s = .next t ∧ t.mode.mode = nextMode^[k] s.mode.mode := by
  induction k generalizing s with
  | zero => exact ⟨s, rfl, rfl⟩
  | succ k ih =>
    rw [List.replicate_succ, execAll_cons_of_next _ _ s _ (exec_btnA_of_unarmed h)]
    exact ih h

theorem execAll_btnA_of_armed (k : Nat) (h : s.mode.armed = true) : execAll (List.replicate k .btnA) s = .next s := by
  induction k with
  | zero => rfl
  | succ k ih => rw [List.replicate_succ, execAll_cons_of_next _ _ s _ (exec_btnA_of_armed h), ih]

end

/-! ## The obligations -/

/-- Settles O32. -/
theorem btnAAdvancesTheMode : Obligations.BtnAAdvancesTheMode :=
  fun s => ⟨fun h => ⟨nextMode s.mode.mode, modeCode_nextMode _, exec_btnA_of_unarmed h⟩, exec_btnA_of_armed⟩

/-- Settles O33. -/
theorem btnBTogglesTheArmLatch : Obligations.BtnBTogglesTheArmLatch :=
  fun _ => ⟨exec_btnB_of_unarmed, exec_btnB_of_armed⟩

/-- Settles O34, from the order of `nextMode` and from what a run of BTN_A does in either value of ARMED. -/
theorem modeCycleProperties : Obligations.ModeCycleProperties := by
  refine ⟨nextMode_bijective.existsUnique, ?five, ?fewer, fun _ n h => execAll_btnA_of_armed n h,
    fun _ h => ⟨_, exec_btnB_of_armed h, rfl⟩⟩
  case five =>
    intro s h
    obtain ⟨t, ht, hmode⟩ := execAll_btnA_of_unarmed 5 h
    exact ⟨t, ht, hmode.trans ((iterate_nextMode_eq_self_iff 5 _).mpr dvd_rfl)⟩
  case fewer =>
    intro s k h hpos hle
    obtain ⟨t, ht, hmode⟩ := execAll_btnA_of_unarmed k h
    refine ⟨t, ht, fun hsame => ?_⟩
    have hdvd : 5 ∣ k := (iterate_nextMode_eq_self_iff k _).mp (hmode.symm.trans hsame)
    omega

/-- Settles O35: the press of button B that arms freezes MODE against a later press of button A, and the one that disarms
frees it (R142). -/
theorem buttonOrderDecidesTheArmedMode : Obligations.ButtonOrderDecidesTheArmedMode := by
  intro s
  cases h : s.mode.armed with
  | false =>
    refine ⟨_, _, execAll_pair (exec_btnA_of_unarmed h) (exec_btnB_of_unarmed h),
      execAll_pair (exec_btnB_of_unarmed h) (exec_btnA_of_armed rfl), fun _ => ?_, nofun⟩
    exact ⟨rfl, modeCode_nextMode _, rfl, rfl⟩
  | true =>
    refine ⟨_, _, execAll_pair (exec_btnA_of_armed h) (exec_btnB_of_armed h),
      execAll_pair (exec_btnB_of_armed h) (exec_btnA_of_unarmed rfl), nofun, fun _ => ?_⟩
    exact ⟨rfl, rfl, rfl, nextMode_none⟩

end Sys2Proof.Machine
end

section
/-! PROOF. The statements of 44_telemetry.md: the telemetry part of BT_OVF, what a storage failure touches, the one-way latch
HEALTHY, and the spelling of a distance. Whatever the tick, HEALTHY and the trace turn on one question, whether the BT_OVF
attempts a storage sequence (R155): an attempt leaves HEALTHY set exactly for OK and emits its one record, and without one
both stay. -/

namespace Sys2Proof.Machine

/-! ## The status line (R153) -/

/-- The line with the ASCII codes of its characters written out. -/
theorem formatLine_eq (d : Nat) :
    formatLine d = [0x64, 0x69, 0x73, 0x74, 0x3A, BitVec.ofNat 8 (0x30 + d / 100 % 10),
      BitVec.ofNat 8 (0x30 + d / 10 % 10), BitVec.ofNat 8 (0x30 + d % 10), 0x0D, 0x0A] := rfl

/-- Below 1000 the three digits of the line are all the decimal digits of the distance (R154). -/
theorem decimalDigits_sum {d : Nat} (h : d ≤ 999) : 100 * (d / 100 % 10) + 10 * (d / 10 % 10) + d % 10 = d := by
  omega

/-- Settles O40. -/
theorem statusLineSpellsTheDistance : Obligations.StatusLineSpellsTheDistance := by
  intro d hd
  have hdigit (n : Nat) : n % 10 ≤ 9 := Nat.le_of_lt_succ (Nat.mod_lt n (by decide))
  exact ⟨d / 100 % 10, d / 10 % 10, d % 10, hdigit _, hdigit _, hdigit _, decimalDigits_sum hd, formatLine_eq d⟩

/-! ## TLM and the trace after the telemetry part (R152, R155) -/

/-- TCYC does not depend on the storage answer (R156). -/
theorem telemetryState_tcyc_congr (x y : StorageAnswer) (t : TlmState) :
    (telemetryState x t).tcyc = (telemetryState y t).tcyc := by
  by_cases htick : TelemetryTick t
  · rw [telemetryState_tick x t htick, telemetryState_tick y t htick]
  · rw [telemetryState_no_tick x t htick, telemetryState_no_tick y t htick]

section
variable {t : TlmState}

theorem telemetryState_healthy_of_attempt (sto : StorageAnswer) (h : Attempts t) :
    (telemetryState sto t).healthy = true ↔ sto = .ok := by
  obtain ⟨htick, hhealthy⟩ := h
  rw [telemetryState_tick sto t htick, hhealthy, Bool.true_and, storageSucceeds_iff]

/-- Without an attempt HEALTHY stays: the BT_OVF is no tick, or HEALTHY is 0 already. -/
theorem telemetryState_healthy_of_no_attempt (sto : StorageAnswer) (h : ¬ Attempts t) :
    (telemetryState sto t).healthy = t.healthy := by
  by_cases htick : TelemetryTick t
  · have hclear : t.healthy = false := Bool.eq_false_of_not_eq_true fun hhealthy => h ⟨htick, hhealthy⟩
    rw [telemetryState_tick sto t htick, hclear, Bool.false_and]
  · rw [telemetryState_no_tick sto t htick]

theorem not_attempts_of_healthy_false (h : t.healthy = false) : ¬ Attempts t :=
  fun ⟨_, hhealthy⟩ => Bool.false_ne_true (h.symm.trans hhealthy)

theorem not_attempts_of_no_tick (h : ¬ TelemetryTick t) : ¬ Attempts t := fun ⟨htick, _⟩ => h htick

end

section
variable {s : State}

theorem telemetryPart_trace_of_attempt (sto : StorageAnswer) (h : Attempts s.tlm) :
    (telemetryPart sto s).trace = s.trace ++ [.tlm (formatLine s.rng.fdist.toNat) sto] := by
  rw [telemetryPart_trace, telemetryRecords_attempt _ _ _ h]

theorem telemetryPart_trace_of_no_attempt (sto : StorageAnswer) (h : ¬ Attempts s.tlm) :
    (telemetryPart sto s).trace = s.trace := by
  rw [telemetryPart_trace, telemetryRecords_no_attempt _ _ _ h, List.append_nil]

end

/-! ## BT_OVF

The actuation part leaves TLM, FDIST and the trace as they are, so an attempt of the state before BT_OVF is, by definition,
an attempt of the state that the telemetry part starts from. -/

/-- Settles O37. -/
theorem btOvfTelemetryPart : Obligations.BtOvfTelemetryPart := by
  intro s sto hlt
  refine ⟨_, exec_btOvf sto s, fun htick => ⟨?restarts, fun hhealthy => ?attempts, fun hclear => ?clear⟩,
    fun hno => ?counts⟩
  case restarts => rw [telemetryPart_tlm, State.setAct_tlm, telemetryState_tick sto _ htick]
  case attempts =>
    have hattempt : Attempts s.tlm := ⟨htick, hhealthy⟩
    rw [← formatLine_eq]
    exact ⟨telemetryState_healthy_of_attempt sto hattempt, telemetryPart_trace_of_attempt sto hattempt⟩
  case clear =>
    have hnone := not_attempts_of_healthy_false hclear
    exact ⟨(telemetryState_healthy_of_no_attempt sto hnone).trans hclear, telemetryPart_trace_of_no_attempt sto hnone⟩
  case counts =>
    have hnone := not_attempts_of_no_tick hno
    have hnext : s.tlm.tcyc.toNat + 1 < tlmDiv := lt_of_le_of_ne hlt hno
    exact ⟨(telemetryState_tcyc sto hlt).trans (Nat.mod_eq_of_lt hnext),
      telemetryState_healthy_of_no_attempt sto hnone, telemetryPart_trace_of_no_attempt sto hnone⟩

/-- Settles O38. -/
theorem storageFailureTouchesOnlyHealthy : Obligations.StorageFailureTouchesOnlyHealthy := by
  intro s sto
  refine ⟨_, _, exec_btOvf sto s, exec_btOvf .ok s, rfl, rfl, rfl, telemetryState_tcyc_congr sto .ok s.tlm, rfl, rfl, ?_⟩
  by_cases hattempt : Attempts s.tlm
  · exact .inr ⟨_, telemetryPart_trace_of_attempt sto hattempt, telemetryPart_trace_of_attempt .ok hattempt⟩
  · have hkept (x : StorageAnswer) : (telemetryState x s.tlm).healthy = s.tlm.healthy :=
      telemetryState_healthy_of_no_attempt x hattempt
    exact .inl ⟨telemetryPart_trace_of_no_attempt sto hattempt, telemetryPart_trace_of_no_attempt .ok hattempt,
      (hkept sto).trans (hkept .ok).symm⟩

/-! ## The latch HEALTHY (R157) -/

/-- All that an operation can do to TLM: only BT_OVF and RESET write it (R49). -/
theorem exec_tlm_cases {i : Instr} {s t : State} (h : exec i s = .next t) :
    t.tlm = s.tlm ∨ (∃ sto, i = .btOvf sto ∧ t.tlm = telemetryState sto s.tlm) ∨ (i = .reset ∧ t.tlm = tlmReset) := by
  cases i <;> obtain rfl := Host.Outcome.next.inj h
  case btOvf sto => exact .inr (.inl ⟨sto, rfl, rfl⟩)
  case reset => exact .inr (.inr ⟨rfl, rfl⟩)
  all_goals exact .inl rfl

section
variable {i : Instr} {s t : State}

theorem exec_healthy_of_no_attempt (h : exec i s = .next t) (hreset : i ≠ .reset) (hnone : ¬ Attempts s.tlm) :
    t.tlm.healthy = s.tlm.healthy := by
  rcases exec_tlm_cases h with e | ⟨sto, -, e⟩ | ⟨hi, -⟩
  · rw [e]
  · rw [e, telemetryState_healthy_of_no_attempt sto hnone]
  · exact absurd hi hreset

/-- The only record that an operation emits without an attempt is that of REG_RD (20_memory.md R58). -/
theorem mem_trace_of_tlm_mem_of_no_attempt (h : exec i s = .next t) (hnone : ¬ Attempts s.tlm) {line : List Byte}
    {sto : StorageAnswer} (hmem : OutRecord.tlm line sto ∈ t.trace) : OutRecord.tlm line sto ∈ s.trace := by
  rcases exec_trace_cases h with e | ⟨r, -, e⟩ | ⟨-, -, hattempt, -⟩
  · rwa [e] at hmem
  · simpa [e] using hmem
  · exact absurd hattempt hnone

end

/-- Settles O39. -/
theorem healthyIsAOneWayLatch : Obligations.HealthyIsAOneWayLatch := by
  refine ⟨fun _ => rfl, fun s sto hhealthy htick hfail => ?failure, fun i s t hclear hreset h => ?latched,
    fun s => ⟨_, rfl, rfl⟩⟩
  case failure =>
    exact ⟨_, exec_btOvf sto s, Bool.eq_false_of_not_eq_true fun hset =>
      hfail ((telemetryState_healthy_of_attempt sto ⟨htick, hhealthy⟩).mp hset)⟩
  case latched =>
    have hnone := not_attempts_of_healthy_false hclear
    exact ⟨(exec_healthy_of_no_attempt h hreset hnone).trans hclear,
      fun _ _ => mem_trace_of_tlm_mem_of_no_attempt h hnone⟩

end Sys2Proof.Machine
end

section
/-! PROOF. The statements of 45_host_ops.md: IDLE, the word that REG_RD answers at every index of the register map, and
what REG_WR stores. A read is settled register by register: a status word is the sum of its fields, an unsigned element
keeps its unsigned value and a target its signed value. -/

namespace Sys2Proof.Machine

/-! ## The operations -/

theorem exec_idle (s : State) : exec .idle s = .next s := rfl

theorem exec_regRd (i : RegIndex) (s : State) : exec (.regRd i) s = .next (s.emit [.rd i (regRead i s)]) := rfl

theorem exec_regWr_of_not_target {i : RegIndex} (hi : ¬ IsTargetIndex i) (v : RegWord) (s : State) :
    exec (.regWr i v) s = .next s :=
  (exec_regWr i v s).trans (congrArg (fun a => Host.Outcome.next (s.setAct a)) (regWriteAct_of_not_target hi v s.act))

/-! ## The codes of CSTATE and MODE (10_state.md R22, R38) -/

theorem captureCode_toNat (c : CaptureState) :
    (captureCode c).toNat = match c with | .awaitingTrigger => 0 | .awaitingEcho => 1 | .readyToProcess => 2 := by
  cases c <;> rfl

theorem modeCode_toNat (m : OperatingMode) :
    (modeCode m).toNat = match m with | .none => 0 | .basic => 1 | .speed => 2 | .accuracy => 3 | .iot => 4 := by
  cases m <;> rfl

/-! ## The register map (R172, 10_state.md R43) -/

theorem regRead_registerIndex (r : Register) (s : State) : regRead (registerIndex r) s = registerContents r s :=
  regRead_of_registerAt _ r s (registerAt_registerIndex r)

section
variable {s : State} {x : Half} (r : Register)

theorem regRead_unsigned (h : registerContents r s = x.setWidth 32) :
    (regRead (registerIndex r) s).toNat = x.toNat := by
  rw [regRead_registerIndex, h, BitVec.toNat_setWidth_of_le (by decide)]

theorem regRead_signed (h : registerContents r s = x.signExtend 32) :
    (regRead (registerIndex r) s).toInt = x.toInt := by
  rw [regRead_registerIndex, h, BitVec.toInt_signExtend_of_le (by decide)]

end

/-- The indices that 10_state.md R43 gives to no register. -/
abbrev IsReservedIndex (i : RegIndex) : Prop :=
  i.toNat = 0x07 ∨ (0x0B ≤ i.toNat ∧ i.toNat ≤ 0x0F) ∨ (0x19 ≤ i.toNat ∧ i.toNat ≤ 0x1F) ∨
    (0x21 ≤ i.toNat ∧ i.toNat ≤ 0x27) ∨ 0x29 ≤ i.toNat

theorem not_isReservedIndex_registerIndex (r : Register) : ¬ IsReservedIndex (registerIndex r) := by
  cases r <;> decide

theorem registerAt_of_isReservedIndex {i : RegIndex} (h : IsReservedIndex i) : registerAt i = none := by
  cases hr : registerAt i with
  | none => rfl
  | some r =>
    obtain rfl := registerIndex_of_registerAt i r hr
    exact absurd h (not_isReservedIndex_registerIndex r)

/-! ## The obligations -/

/-- Settles O41. -/
theorem idleChangesNothing : Obligations.IdleChangesNothing := exec_idle

/-- Settles O42: the map gives each register's index, and each `rfl` the extension its contents are of an element. -/
theorem regRdReturnsTheRegisterWord : Obligations.RegRdReturnsTheRegisterWord := by
  intro s
  have hrstat := rstatWord_toNat s.rng
  rw [captureCode_toNat] at hrstat
  have hmodestat := modestatWord_toNat s.mode
  rw [modeCode_toNat] at hmodestat
  exact ⟨fun i => exec_regRd i s, hrstat,
    regRead_unsigned .fdist rfl, regRead_unsigned .raw0 rfl, regRead_unsigned .raw1 rfl, regRead_unsigned .raw2 rfl,
    regRead_unsigned .cap1 rfl, regRead_unsigned .cap2 rfl,
    regRead_signed .tgt0 rfl, regRead_signed .tgt1 rfl, regRead_signed .tgt2 rfl,
    regRead_unsigned .act0 rfl, regRead_unsigned .act1 rfl, regRead_unsigned .act2 rfl, regRead_unsigned .act3 rfl,
    regRead_unsigned .shd0 rfl, regRead_unsigned .shd1 rfl, regRead_unsigned .shd2 rfl, regRead_unsigned .shd3 rfl,
    pwmstatWord_toNat s.act, hmodestat, tlmstatWord_toNat s.tlm,
    fun i hi => regRead_reserved i s (registerAt_of_isReservedIndex hi)⟩

/-- Settles O43: DATA[15:0] is the truncation of DATA that a target stores. -/
theorem regWrWritesTheTargetsOnly : Obligations.RegWrWritesTheTargetsOnly := by
  intro s v
  rw [← BitVec.setWidth_eq_extractLsb' (by decide)]
  exact ⟨exec_regWr _ v s, exec_regWr _ v s, exec_regWr _ v s, fun i h0 h1 h2 =>
    exec_regWr_of_not_target (fun htarget => htarget.elim h0 fun h => h.elim h1 h2) v s⟩

end Sys2Proof.Machine
end

section
/-! PROOF. The statements of 60_exceptions.md about the waiting step and the pairs of operations whose order does not matter.
`State.after` gives the state after an operation unit by unit, which an equation ties to `exec`; a pair commutes when its two
orders agree in each unit and in the trace. -/

namespace Sys2Proof.Machine

/-! ## Waiting (R200) -/

/-- Settles O10. -/
theorem blockWaitsWithNothingPresented : Obligations.BlockWaitsWithNothingPresented :=
  fun _ _ hs hops => step_of_nothing hs hops

/-! ## The state after an operation, unit by unit -/

/-- What an operation makes of RNG. -/
def rngAfter (p : Params) (i : Instr) (r : RngState) : RngState :=
  match i with
  | .ctCmp => rngCtCmp r
  | .ctOvf => rngCtOvf p r
  | .capDone rise fall => rngCapDone rise fall r
  | .poll => rngPoll p r
  | .reset => rngReset
  | .idle | .btOvf _ | .pwmBnd | .btnA | .btnB | .regRd _ | .regWr _ _ => r

/-- What an operation makes of ACT. -/
def actAfter (p : Params) (i : Instr) (a : ActState) : ActState :=
  match i with
  | .btOvf _ => actuationPart p a
  | .pwmBnd => pwmBoundary a
  | .regWr r v => regWriteAct r v a
  | .reset => actReset p
  | .idle | .ctCmp | .ctOvf | .capDone _ _ | .poll | .btnA | .btnB | .regRd _ => a

/-- What an operation makes of MODE. -/
def modeAfter (i : Instr) (m : ModeState) : ModeState :=
  match i with
  | .btnA => buttonA m
  | .btnB => buttonB m
  | .reset => modeReset
  | .idle | .ctCmp | .ctOvf | .capDone _ _ | .poll | .btOvf _ | .pwmBnd | .regRd _ | .regWr _ _ => m

/-- What an operation makes of TLM. -/
def tlmAfter (i : Instr) (t : TlmState) : TlmState :=
  match i with
  | .btOvf sto => telemetryState sto t
  | .reset => tlmReset
  | .idle | .ctCmp | .ctOvf | .capDone _ _ | .poll | .pwmBnd | .btnA | .btnB | .regRd _ | .regWr _ _ => t

/-- The records an operation emits (20_memory.md R58). -/
def recordsOf (i : Instr) (s : State) : List OutRecord :=
  match i with
  | .regRd r => [.rd r (regRead r s)]
  | .btOvf sto => telemetryRecords s.rng.fdist sto s.tlm
  | .idle | .ctCmp | .ctOvf | .capDone _ _ | .poll | .pwmBnd | .btnA | .btnB | .regWr _ _ | .reset => []

/-- The state after an operation. -/
def State.after (s : State) (i : Instr) : State :=
  { s with
    rng := rngAfter s.params i s.rng, act := actAfter s.params i s.act, mode := modeAfter i s.mode,
    tlm := tlmAfter i s.tlm, trace := s.trace ++ recordsOf i s }

section
variable (i : Instr) (s : State)

@[simp] theorem State.after_setup : (s.after i).setup = s.setup := rfl
@[simp] theorem State.after_params : (s.after i).params = s.params := rfl
@[simp] theorem State.after_rng : (s.after i).rng = rngAfter s.params i s.rng := rfl
@[simp] theorem State.after_act : (s.after i).act = actAfter s.params i s.act := rfl
@[simp] theorem State.after_tlm : (s.after i).tlm = tlmAfter i s.tlm := rfl
@[simp] theorem State.after_trace : (s.after i).trace = s.trace ++ recordsOf i s := rfl

end

theorem exec_eq_after (i : Instr) (s : State) : exec i s = .next (s.after i) := by
  cases i
  case regRd | btOvf => rfl
  all_goals
    rw [State.after, recordsOf, List.append_nil]
    rfl

theorem execAll_two_eq_after (i j : Instr) (s : State) : execAll [i, j] s = .next ((s.after i).after j) :=
  execAll_pair (exec_eq_after i s) (exec_eq_after j _)

/-- A record is computed from the four units. -/
theorem recordsOf_congr {s t : State} (hrng : t.rng = s.rng) (hact : t.act = s.act) (hmode : t.mode = s.mode)
    (htlm : t.tlm = s.tlm) (i : Instr) : recordsOf i t = recordsOf i s := by
  cases i
  case regRd r => rw [recordsOf, recordsOf, regRead_congr hrng hact hmode htlm]
  case btOvf sto => rw [recordsOf, recordsOf, hrng, htlm]
  all_goals rfl

/-- An operation that can act neither by itself nor by the index it writes leaves every state as it is (R170, R174). -/
theorem exec_of_not_canAct {i : Instr} (h : ¬ CanAct i) (s : State) : exec i s = .next s := by
  by_cases hidle : i = .idle
  · exact hidle ▸ exec_idle s
  · have hwrite : ∃ r v, i = .regWr r v ∧ ¬ IsTargetIndex r := by
      by_contra hall
      exact h ⟨hidle, fun r v hi => by_contra fun hr => hall ⟨r, v, hi, hr⟩⟩
    obtain ⟨r, v, rfl, hr⟩ := hwrite
    exact exec_regWr_of_not_target hr v s

/-! ## The rows of the order table (R192), by name -/

section
variable {s : State}

theorem OrderListed.ctCmp_ctOvf (hc : s.rng.cstate = .awaitingTrigger) (ht : s.rng.trig = false) :
    OrderListed s .ctCmp .ctOvf := .inl ⟨rfl, rfl, hc, ht⟩

theorem OrderListed.ctCmp_poll (hc : s.rng.cstate = .readyToProcess) : OrderListed s .ctCmp .poll :=
  .inr (.inl ⟨rfl, rfl, hc⟩)

theorem OrderListed.ctOvf_capDone_of_trigger (rise fall : Half) (hc : s.rng.cstate = .awaitingTrigger)
    (ht : s.rng.trig = true) : OrderListed s .ctOvf (.capDone rise fall) :=
  .inr (.inr (.inl ⟨rfl, ⟨rise, fall, rfl⟩, hc, ht⟩))

theorem OrderListed.ctOvf_capDone_of_echo (rise fall : Half) (hc : s.rng.cstate = .awaitingEcho) :
    OrderListed s .ctOvf (.capDone rise fall) :=
  .inr (.inr (.inr (.inl ⟨rfl, ⟨rise, fall, rfl⟩, hc⟩)))

theorem OrderListed.poll_btOvf (sto : StorageAnswer) (hattempt : Attempts s.tlm) (hc : s.rng.cstate = .readyToProcess) :
    OrderListed s .poll (.btOvf sto) :=
  .inr (.inr (.inr (.inr (.inl ⟨rfl, ⟨sto, rfl⟩, hattempt, hc⟩))))

theorem OrderListed.regWr_btOvf {r : RegIndex} (v : RegWord) (sto : StorageAnswer) (hr : IsTargetIndex r)
    (htick : ActuationTick s.act) : OrderListed s (.regWr r v) (.btOvf sto) :=
  .inr (.inr (.inr (.inr (.inr (.inl ⟨⟨r, v, rfl, hr⟩, ⟨sto, rfl⟩, htick⟩)))))

theorem OrderListed.btOvf_pwmBnd (sto : StorageAnswer) (htick : ActuationTick s.act) :
    OrderListed s (.btOvf sto) .pwmBnd :=
  .inr (.inr (.inr (.inr (.inr (.inr (.inl ⟨⟨sto, rfl⟩, rfl, htick⟩))))))

theorem OrderListed.btnA_btnB : OrderListed s .btnA .btnB :=
  .inr (.inr (.inr (.inr (.inr (.inr (.inr (.inl ⟨rfl, rfl⟩)))))))

theorem OrderListed.regRd_writer {r : RegIndex} {e : Element} {j : Instr} (he : e ∈ elementsAt r) (hw : e.WrittenBy j) :
    OrderListed s (.regRd r) j :=
  .inr (.inr (.inr (.inr (.inr (.inr (.inr (.inr (.inl ⟨r, rfl, e, he, hw⟩))))))))

theorem OrderListed.reset_canAct {j : Instr} (hj : CanAct j) : OrderListed s .reset j :=
  .inr (.inr (.inr (.inr (.inr (.inr (.inr (.inr (.inr (.inl ⟨rfl, hj⟩)))))))))

theorem OrderListed.capDone_capDone {a b c d : Half} (hne : a ≠ c ∨ b ≠ d) (hc : s.rng.cstate = .awaitingEcho) :
    OrderListed s (.capDone a b) (.capDone c d) :=
  .inr (.inr (.inr (.inr (.inr (.inr (.inr (.inr (.inr (.inr (.inl ⟨a, b, c, d, rfl, rfl, hne, hc⟩))))))))))

theorem OrderListed.btOvf_btOvf {x y : StorageAnswer} (hne : x ≠ y) (hhealthy : s.tlm.healthy = true)
    (htick : s.tlm.tcyc.toNat + 1 = tlmDiv ∨ s.tlm.tcyc.toNat + 2 = tlmDiv) :
    OrderListed s (.btOvf x) (.btOvf y) :=
  .inr (.inr (.inr (.inr (.inr (.inr (.inr (.inr (.inr (.inr (.inr (.inl ⟨x, y, rfl, rfl, hne, hhealthy, htick⟩)))))))))))

theorem OrderListed.regWr_regWr {r : RegIndex} {v v' : RegWord} (hr : IsTargetIndex r)
    (hne : v.extractLsb' 0 16 ≠ v'.extractLsb' 0 16) : OrderListed s (.regWr r v) (.regWr r v') :=
  .inr (.inr (.inr (.inr (.inr (.inr (.inr (.inr (.inr (.inr (.inr (.inr (.inl ⟨r, v, v', rfl, rfl, hr, hne⟩))))))))))))

theorem OrderListed.emits_emits {i j : Instr} (hi : Emits i s) (hj : Emits j s) : OrderListed s i j :=
  .inr (.inr (.inr (.inr (.inr (.inr (.inr (.inr (.inr (.inr (.inr (.inr (.inr ⟨hi, hj⟩))))))))))))

theorem OrderUnlisted.capDone_poll (rise fall : Half) (hc : s.rng.cstate = .awaitingEcho) :
    OrderUnlisted s (.capDone rise fall) .poll := .inl ⟨⟨rise, fall, rfl⟩, rfl, hc⟩

theorem OrderUnlisted.ctOvf_poll (hc : s.rng.cstate = .awaitingEcho)
    (hend : s.params.distMaxOverflow ≤ s.rng.ovf.toNat + 1) : OrderUnlisted s .ctOvf .poll :=
  .inr ⟨rfl, rfl, hc, hend⟩

theorem OrderSensitive.symm {i j : Instr} (h : OrderSensitive s i j) : OrderSensitive s j i := by
  rcases h with h | h | h | h
  · exact .inr (.inl h)
  · exact .inl h
  · exact .inr (.inr (.inr h))
  · exact .inr (.inr (.inl h))

end

/-! ## Pairs within RNG (R81, R82, R84, R87)

In a state where the order of two of them does not matter, one of the two does nothing, before the other and after it. -/

/-- Functions commute where one of them does nothing, before and after the other. -/
theorem comm_of_fixed {α : Type} {f g : α → α} {x : α} (h : f x = x) (hg : f (g x) = g x) : f (g x) = g (f x) := by
  rw [h, hg]

section
variable {p : Params} {r : RngState}

theorem rngCtCmp_cstate (r : RngState) : (rngCtCmp r).cstate = r.cstate := by
  obtain ⟨_, hframe⟩ := rngCtCmp_frame r
  rw [hframe]

theorem rngCtCmp_rngCtOvf_comm (h : ¬ (r.cstate = .awaitingTrigger ∧ r.trig = false)) :
    rngCtCmp (rngCtOvf p r) = rngCtOvf p (rngCtCmp r) := by
  refine comm_of_fixed (rngCtCmp_otherwise h) (rngCtCmp_otherwise ?_)
  rcases rngCtOvf_cases p r with ⟨-, -, e⟩ | ⟨hc, -, e⟩ | ⟨-, -, e⟩ | ⟨-, e⟩ <;> rw [e]
  · simp
  · simp [hc]
  · simp
  · exact h

theorem rngCtCmp_rngCapDone_comm (rise fall : Half) :
    rngCtCmp (rngCapDone rise fall r) = rngCapDone rise fall (rngCtCmp r) := by
  by_cases hc : r.cstate = .awaitingEcho
  · refine comm_of_fixed (rngCtCmp_otherwise (by simp [hc])) (rngCtCmp_otherwise ?_)
    simp [rngCapDone_of_echo rise fall hc]
  · exact (comm_of_fixed (rngCapDone_of_not_echo rise fall hc)
      (rngCapDone_of_not_echo rise fall (by rwa [rngCtCmp_cstate]))).symm

theorem rngCtCmp_rngPoll_comm (hc : r.cstate ≠ .readyToProcess) : rngCtCmp (rngPoll p r) = rngPoll p (rngCtCmp r) :=
  (comm_of_fixed (rngPoll_of_not_ready hc) (rngPoll_of_not_ready (by rwa [rngCtCmp_cstate]))).symm

theorem rngCtOvf_rngCapDone_comm (rise fall : Half) (htrigger : r.cstate = .awaitingTrigger → r.trig = false)
    (hecho : r.cstate ≠ .awaitingEcho) : rngCtOvf p (rngCapDone rise fall r) = rngCapDone rise fall (rngCtOvf p r) := by
  have hidle : rngCtOvf p r = r := by
    cases hc : r.cstate with
    | awaitingTrigger => exact rngCtOvf_of_no_trigger hc (htrigger hc)
    | awaitingEcho => exact absurd hc hecho
    | readyToProcess => exact rngCtOvf_of_ready hc
  have hdiscarded := rngCapDone_of_not_echo rise fall hecho
  exact comm_of_fixed hidle (by rw [hdiscarded, hidle])

theorem rngCtOvf_rngPoll_comm (hend : ¬ (r.cstate = .awaitingEcho ∧ p.distMaxOverflow ≤ r.ovf.toNat + 1))
    (hclear : r.cstate = .readyToProcess → r.trig = false) : rngCtOvf p (rngPoll p r) = rngPoll p (rngCtOvf p r) := by
  by_cases hc : r.cstate = .readyToProcess
  · refine comm_of_fixed (rngCtOvf_of_ready hc) ?_
    rw [rngPoll_of_ready hc]
    exact rngCtOvf_of_no_trigger rfl (hclear hc)
  · refine (comm_of_fixed (rngPoll_of_not_ready hc) (rngPoll_of_not_ready ?_)).symm
    rcases rngCtOvf_cases p r with ⟨-, -, e⟩ | ⟨-, -, e⟩ | ⟨hecho, hle, -⟩ | ⟨-, e⟩
    · simp [e]
    · rwa [e]
    · exact absurd ⟨hecho, hle⟩ hend
    · rwa [e]

theorem rngCapDone_rngPoll_comm (rise fall : Half) (hc : r.cstate ≠ .awaitingEcho) :
    rngCapDone rise fall (rngPoll p r) = rngPoll p (rngCapDone rise fall r) := by
  refine comm_of_fixed (rngCapDone_of_not_echo rise fall hc) (rngCapDone_of_not_echo rise fall ?_)
  rcases rngPoll_cases p r with ⟨-, e⟩ | ⟨-, e⟩ <;> rw [e]
  · simp
  · exact hc

theorem rngCapDone_rngCapDone_comm {a b c d : Half} (hc : r.cstate ≠ .awaitingEcho) :
    rngCapDone a b (rngCapDone c d r) = rngCapDone c d (rngCapDone a b r) := by
  rw [rngCapDone_of_not_echo a b hc, rngCapDone_of_not_echo c d hc, rngCapDone_of_not_echo a b hc]

end

/-! ## Pairs within ACT (R119, R123, R174) -/

section
variable {p : Params} {a : ActState}

theorem actuationPart_pwmBoundary_comm (htick : ¬ ActuationTick a) :
    actuationPart p (pwmBoundary a) = pwmBoundary (actuationPart p a) := by
  rw [actuationPart_no_tick p a htick]
  rcases pwmBoundary_cases a with ⟨hpending, e⟩ | ⟨hsettled, e⟩ <;> rw [e]
  · exact (if_neg htick).trans (if_pos hpending).symm
  · exact (if_neg htick).trans (if_neg (by simp [hsettled])).symm

/-- Without a tick nothing is mapped; a write that a target ignores changes nothing. -/
theorem actuationPart_regWriteAct_comm {r : RegIndex} (v : RegWord) (h : ¬ (IsTargetIndex r ∧ ActuationTick a)) :
    actuationPart p (regWriteAct r v a) = regWriteAct r v (actuationPart p a) := by
  by_cases hr : IsTargetIndex r
  · have htick : ¬ ActuationTick a := fun htick => h ⟨hr, htick⟩
    rw [actuationPart_no_tick p a htick]
    rcases hr with rfl | rfl | rfl <;> exact actuationPart_no_tick p _ htick
  · rw [regWriteAct_of_not_target hr, regWriteAct_of_not_target hr]

theorem pwmBoundary_regWriteAct_comm (r : RegIndex) (v : RegWord) :
    pwmBoundary (regWriteAct r v a) = regWriteAct r v (pwmBoundary a) := by
  by_cases hr : IsTargetIndex r
  · rcases pwmBoundary_cases a with ⟨hpending, e⟩ | ⟨hsettled, e⟩ <;> rw [e]
    · rcases hr with rfl | rfl | rfl <;> exact if_pos hpending
    · rcases hr with rfl | rfl | rfl <;> exact if_neg (by simp [regWriteAct, registerAt, hsettled])
  · rw [regWriteAct_of_not_target hr, regWriteAct_of_not_target hr]

/-- Two writes store in different targets, or the same half word in one. -/
theorem regWriteAct_regWriteAct_comm {r r' : RegIndex} {v v' : RegWord}
    (h : r = r' → IsTargetIndex r → v.extractLsb' 0 16 = v'.extractLsb' 0 16) :
    regWriteAct r v (regWriteAct r' v' a) = regWriteAct r' v' (regWriteAct r v a) := by
  by_cases hr : IsTargetIndex r
  · by_cases hr' : IsTargetIndex r'
    · by_cases heq : r = r'
      · have hv := h heq hr
        rw [← BitVec.setWidth_eq_extractLsb' (by decide), ← BitVec.setWidth_eq_extractLsb' (by decide)] at hv
        subst heq
        rcases hr with rfl | rfl | rfl <;> simp [regWriteAct, registerAt, hv]
      · rcases hr with rfl | rfl | rfl <;> rcases hr' with rfl | rfl | rfl <;> simp [regWriteAct, registerAt] at heq ⊢
    · rw [regWriteAct_of_not_target hr', regWriteAct_of_not_target hr']
  · rw [regWriteAct_of_not_target hr, regWriteAct_of_not_target hr]

end

/-! ## What a record reads -/

section
variable {s t : State}

/-- A register's word is computed from the values of its elements (10_state.md R43 to R47). -/
theorem registerContents_of_elements {r : Register} (h : ∀ e ∈ registerElements r, e.value t = e.value s) :
    registerContents r t = registerContents r s := by
  cases r
  case rstat | pwmstat | modestat | tlmstat =>
    simp only [registerElements, List.forall_mem_cons, Element.value] at h
    apply BitVec.eq_of_toNat_eq
    simp only [registerContents, rstatWord_toNat, pwmstatWord_toNat, modestatWord_toNat, tlmstatWord_toNat, h]
  all_goals
    simp only [registerElements, List.forall_mem_singleton, Element.value, BitVec.toNat_inj] at h
    simp only [registerContents, h]

theorem regRead_of_elements {i : RegIndex} (h : ∀ e ∈ elementsAt i, e.value t = e.value s) :
    regRead i t = regRead i s := by
  cases hi : registerAt i with
  | none => rw [regRead_reserved i t hi, regRead_reserved i s hi]
  | some r =>
    rw [regRead_of_registerAt i r t hi, regRead_of_registerAt i r s hi]
    exact registerContents_of_elements (by simpa only [elementsAt, hi] using h)

/-- A read sees the same word after an operation that writes no element it reads (R192). -/
theorem regRead_after {i : RegIndex} {j : Instr} (h : ∀ e ∈ elementsAt i, ¬ e.WrittenBy j) :
    regRead i (s.after j) = regRead i s :=
  regRead_of_elements fun e he => singleWriterOwnership e j s _ (exec_eq_after j s) (h e he)

theorem recordsOf_eq_nil_of_not_emits {i : Instr} (h : ¬ Emits i s) : recordsOf i s = [] := by
  cases i
  case regRd r => exact absurd (.inl ⟨r, rfl⟩) h
  case btOvf sto => exact telemetryRecords_no_attempt _ _ _ fun hattempt => h (.inr ⟨⟨sto, rfl⟩, hattempt⟩)
  all_goals rfl

/-- Of the operations only POLL and RESET write FDIST (10_state.md R49). -/
theorem fdist_after {j : Instr} (hpoll : j ≠ .poll) (hreset : j ≠ .reset) : (s.after j).rng.fdist = s.rng.fdist := by
  have hunwritten : ¬ Element.fdist.WrittenBy j := by
    cases j
    case poll => exact absurd rfl hpoll
    case reset => exact absurd rfl hreset
    all_goals simp [Element.WrittenBy, Element.writers, Instr.opcode]
  exact BitVec.eq_of_toNat_eq (singleWriterOwnership .fdist j s _ (exec_eq_after j s) hunwritten)

end

/-! ## Two BT_OVF of which none attempts -/

section
variable {t : TlmState}

/-- Neither of two BT_OVF from here attempts a storage sequence (44_telemetry.md R152). -/
def NoAttemptInTwo (t : TlmState) : Prop :=
  t.healthy = true → t.tcyc.toNat + 1 ≠ tlmDiv ∧ t.tcyc.toNat + 2 ≠ tlmDiv

theorem NoAttemptInTwo.first (h : NoAttemptInTwo t) : ¬ Attempts t := by
  rintro ⟨htick, hhealthy⟩
  obtain ⟨hone, -⟩ := h hhealthy
  exact hone htick

theorem NoAttemptInTwo.second (h : NoAttemptInTwo t) (hlegal : TlmInv t) (sto : StorageAnswer) :
    ¬ Attempts (telemetryState sto t) := by
  rintro ⟨htick, hhealthy⟩
  rw [telemetryState_healthy_of_no_attempt sto h.first] at hhealthy
  obtain ⟨hone, htwo⟩ := h hhealthy
  have hlt := hlegal.tcyc_lt
  have hnext : t.tcyc.toNat + 1 < tlmDiv := lt_of_le_of_ne hlt hone
  rw [TelemetryTick, telemetryState_tcyc sto hlt, Nat.mod_eq_of_lt hnext] at htick
  exact htwo htick

/-- The storage answer matters only where a sequence is attempted. -/
theorem telemetryState_congr_of_no_attempt (x y : StorageAnswer) (h : ¬ Attempts t) :
    telemetryState x t = telemetryState y t := by
  by_cases htick : TelemetryTick t
  · have hclear : t.healthy = false := Bool.eq_false_of_not_eq_true fun hhealthy => h ⟨htick, hhealthy⟩
    rw [telemetryState_tick x t htick, telemetryState_tick y t htick, hclear, Bool.false_and, Bool.false_and]
  · rw [telemetryState_no_tick x t htick, telemetryState_no_tick y t htick]

end

/-! ## The units under an unlisted pair

The order of a pair is taken by its operation codes (30_encoding.md R66), so that each pair stands once. -/

/-- A legal READY has its trigger off (10_state.md R24). -/
theorem LegalState.trig_of_ready {s : State} (h : LegalState s) (hc : s.rng.cstate = .readyToProcess) :
    s.rng.trig = false :=
  Bool.eq_false_of_not_eq_true fun ht => by simp [h.rng.trig_only_awaiting_trigger ht] at hc

theorem noAttemptInTwo_of_not_orderSensitive {x y : StorageAnswer} {s : State}
    (h : ¬ OrderSensitive s (.btOvf x) (.btOvf y)) (hne : Instr.btOvf x ≠ .btOvf y) : NoAttemptInTwo s.tlm := by
  have hxy : x ≠ y := fun e => hne (congrArg _ e)
  exact fun hhealthy =>
    ⟨fun htick => h (.inl (.btOvf_btOvf hxy hhealthy (.inl htick))),
      fun htick => h (.inl (.btOvf_btOvf hxy hhealthy (.inr htick)))⟩

section
variable {i j : Instr} {s : State} (h : ¬ OrderSensitive s i j) (hne : i ≠ j) (hle : i.opcode ≤ j.opcode)
  (hi : i ≠ .reset) (hj : j ≠ .reset)
include h hne hle hi hj

theorem rngAfter_comm (hlegal : LegalState s) :
    rngAfter s.params i (rngAfter s.params j s.rng) = rngAfter s.params j (rngAfter s.params i s.rng) := by
  cases i
  case reset => exact absurd rfl hi
  case ctCmp =>
    cases j
    case reset => exact absurd rfl hj
    case ctOvf => exact rngCtCmp_rngCtOvf_comm fun ⟨hc, ht⟩ => h (.inl (.ctCmp_ctOvf hc ht))
    case capDone rise fall => exact rngCtCmp_rngCapDone_comm rise fall
    case poll => exact rngCtCmp_rngPoll_comm fun hc => h (.inl (.ctCmp_poll hc))
    all_goals rfl
  case ctOvf =>
    cases j
    case reset => exact absurd rfl hj
    case ctCmp => simp [Instr.opcode] at hle
    case capDone rise fall =>
      exact rngCtOvf_rngCapDone_comm rise fall
        (fun hc => Bool.eq_false_of_not_eq_true fun ht => h (.inl (.ctOvf_capDone_of_trigger rise fall hc ht)))
        (fun hc => h (.inl (.ctOvf_capDone_of_echo rise fall hc)))
    case poll =>
      exact rngCtOvf_rngPoll_comm (fun ⟨hc, hend⟩ => h (.inr (.inr (.inl (.ctOvf_poll hc hend))))) hlegal.trig_of_ready
    all_goals rfl
  case capDone rise fall =>
    cases j
    case reset => exact absurd rfl hj
    case ctCmp | ctOvf => simp [Instr.opcode] at hle
    case capDone rise' fall' =>
      have hdiffer : rise ≠ rise' ∨ fall ≠ fall' := by
        by_contra hsame
        push Not at hsame
        obtain ⟨rfl, rfl⟩ := hsame
        exact hne rfl
      exact rngCapDone_rngCapDone_comm fun hc => h (.inl (.capDone_capDone hdiffer hc))
    case poll =>
      exact rngCapDone_rngPoll_comm rise fall fun hc => h (.inr (.inr (.inl (.capDone_poll rise fall hc))))
    all_goals rfl
  case poll =>
    cases j
    case reset => exact absurd rfl hj
    case ctCmp | ctOvf | capDone => simp [Instr.opcode] at hle
    all_goals rfl
  all_goals rfl

theorem actAfter_comm :
    actAfter s.params i (actAfter s.params j s.act) = actAfter s.params j (actAfter s.params i s.act) := by
  cases i
  case reset => exact absurd rfl hi
  case btOvf sto =>
    cases j
    case reset => exact absurd rfl hj
    case pwmBnd => exact actuationPart_pwmBoundary_comm fun htick => h (.inl (.btOvf_pwmBnd sto htick))
    case regWr r v =>
      exact actuationPart_regWriteAct_comm v fun ⟨hr, htick⟩ => h (.inr (.inl (.regWr_btOvf v sto hr htick)))
    all_goals rfl
  case pwmBnd =>
    cases j
    case reset => exact absurd rfl hj
    case btOvf => simp [Instr.opcode] at hle
    case regWr r v => exact pwmBoundary_regWriteAct_comm r v
    all_goals rfl
  case regWr r v =>
    cases j
    case reset => exact absurd rfl hj
    case btOvf | pwmBnd => simp [Instr.opcode] at hle
    case regWr r' v' =>
      refine regWriteAct_regWriteAct_comm fun heq hr => by_contra fun hv => ?_
      subst heq
      exact h (.inl (.regWr_regWr hr hv))
    all_goals rfl
  all_goals rfl

theorem modeAfter_comm : modeAfter i (modeAfter j s.mode) = modeAfter j (modeAfter i s.mode) := by
  cases i
  case reset => exact absurd rfl hi
  case btnA =>
    cases j
    case reset => exact absurd rfl hj
    case btnB => exact absurd (.inl .btnA_btnB) h
    all_goals rfl
  case btnB =>
    cases j
    case reset => exact absurd rfl hj
    case btnA => simp [Instr.opcode] at hle
    all_goals rfl
  all_goals rfl

theorem tlmAfter_comm (hlegal : LegalState s) :
    tlmAfter i (tlmAfter j s.tlm) = tlmAfter j (tlmAfter i s.tlm) := by
  cases i
  case reset => exact absurd rfl hi
  case btOvf x =>
    cases j
    case reset => exact absurd rfl hj
    case btOvf y =>
      have hnone := noAttemptInTwo_of_not_orderSensitive h hne
      calc telemetryState x (telemetryState y s.tlm)
          = telemetryState y (telemetryState y s.tlm) :=
            telemetryState_congr_of_no_attempt x y (hnone.second hlegal.tlm y)
        _ = telemetryState y (telemetryState x s.tlm) := by
            rw [telemetryState_congr_of_no_attempt x y hnone.first]
    all_goals rfl
  all_goals rfl

end

section
variable {i j : Instr} {s : State} (h : ¬ OrderSensitive s i j)
include h

/-- In an unlisted pair an operation emits after the other what it emits before it. -/
theorem recordsOf_after (hne : i ≠ j) (hj : j ≠ .reset) (hlegal : LegalState s) :
    recordsOf i (s.after j) = recordsOf i s := by
  cases i
  case regRd r =>
    exact congrArg (fun w => [OutRecord.rd r w]) (regRead_after fun e he hw => h (.inl (.regRd_writer he hw)))
  case btOvf x =>
    by_cases hattempt : Attempts s.tlm
    · have hfdist : (s.after j).rng.fdist = s.rng.fdist := by
        by_cases hpoll : j = .poll
        · subst hpoll
          have hready : s.rng.cstate ≠ .readyToProcess := fun hc => h (.inr (.inl (.poll_btOvf x hattempt hc)))
          exact congrArg RngState.fdist (rngPoll_of_not_ready hready)
        · exact fdist_after hpoll hj
      have htlm : (s.after j).tlm = s.tlm := by
        cases j
        case reset => exact absurd rfl hj
        case btOvf y => exact absurd hattempt (noAttemptInTwo_of_not_orderSensitive h hne).first
        all_goals rfl
      rw [recordsOf, recordsOf, hfdist, htlm]
    · have hnone : ¬ Attempts (s.after j).tlm := by
        cases j
        case reset => exact absurd rfl hj
        case btOvf y => exact (noAttemptInTwo_of_not_orderSensitive h hne).second hlegal.tlm y
        all_goals exact hattempt
      rw [recordsOf, recordsOf, telemetryRecords_no_attempt _ _ _ hattempt, telemetryRecords_no_attempt _ _ _ hnone]
  all_goals rfl

theorem trace_after_comm (hne : i ≠ j) (hi : i ≠ .reset) (hj : j ≠ .reset) (hlegal : LegalState s) :
    ((s.after i).after j).trace = ((s.after j).after i).trace := by
  have hrec_i : recordsOf i (s.after j) = recordsOf i s := recordsOf_after h hne hj hlegal
  have hrec_j : recordsOf j (s.after i) = recordsOf j s := recordsOf_after (fun h' => h h'.symm) hne.symm hi hlegal
  have hswap : recordsOf i s ++ recordsOf j s = recordsOf j s ++ recordsOf i s := by
    by_cases hemit : Emits i s
    · have hnot : ¬ Emits j s := fun hemit' => h (.inl (.emits_emits hemit hemit'))
      rw [recordsOf_eq_nil_of_not_emits hnot, List.append_nil, List.nil_append]
    · rw [recordsOf_eq_nil_of_not_emits hemit, List.append_nil, List.nil_append]
  calc s.trace ++ recordsOf i s ++ recordsOf j (s.after i)
      = s.trace ++ (recordsOf i s ++ recordsOf j s) := by rw [hrec_j, List.append_assoc]
    _ = s.trace ++ recordsOf j s ++ recordsOf i (s.after j) := by rw [hswap, hrec_i, List.append_assoc]

end

/-- An operation that can do nothing commutes with every other. -/
theorem execAll_comm_of_not_canAct {i : Instr} (h : ¬ CanAct i) (j : Instr) (s : State) :
    execAll [i, j] s = .next (s.after j) ∧ execAll [j, i] s = .next (s.after j) :=
  ⟨execAll_pair (exec_of_not_canAct h s) (exec_eq_after j s), execAll_pair (exec_eq_after j s) (exec_of_not_canAct h _)⟩

/-- Settles O51: RESET is listed with every operation that can act, and any other unlisted pair agrees unit by unit and in
the trace. -/
theorem unlistedPairsCommute : Obligations.UnlistedPairsCommute := by
  intro i j s hlegal hne h
  wlog hle : i.opcode ≤ j.opcode generalizing i j
  · obtain ⟨t, hji, hij⟩ := this j i hne.symm (fun h' => h h'.symm) (BitVec.le_of_lt (BitVec.not_le.mp hle))
    exact ⟨t, hij, hji⟩
  by_cases hi : CanAct i
  · by_cases hj : CanAct j
    · have hi_reset : i ≠ .reset := by
        rintro rfl
        exact h (.inl (.reset_canAct hj))
      have hj_reset : j ≠ .reset := by
        rintro rfl
        exact h (.inr (.inl (.reset_canAct hi)))
      have hcomm : (s.after i).after j = (s.after j).after i :=
        State.ext_units _ _ rfl rfl
          (rngAfter_comm h hne hle hi_reset hj_reset hlegal).symm (actAfter_comm h hne hle hi_reset hj_reset).symm
          (modeAfter_comm h hne hle hi_reset hj_reset).symm (tlmAfter_comm h hne hle hi_reset hj_reset hlegal).symm
          (trace_after_comm h hne hi_reset hj_reset hlegal)
      exact ⟨_, execAll_two_eq_after i j s, hcomm ▸ execAll_two_eq_after j i s⟩
    · obtain ⟨hji, hij⟩ := execAll_comm_of_not_canAct hj i s
      exact ⟨_, hij, hji⟩
  · exact ⟨_, execAll_comm_of_not_canAct hi j s⟩

end Sys2Proof.Machine
end

section
/-! PROOF. The statements of 60_exceptions.md about the two outcomes of each row of R192: the pairs within RNG, the pairs with a
BT_OVF, and the pairs with the host and with RESET. -/

namespace Sys2Proof.Machine

/-! ## Pairs within RNG -/

/-- Settles O56, by the row of R86 that each operation meets in either order. -/
theorem rangingPairsDependOnTheOrder : Obligations.RangingPairsDependOnTheOrder := by
  intro s c hs hlegal
  obtain ⟨-, hbudget, -⟩ := c.valid
  have hparams := params_of_accepted hs
  refine ⟨fun hc ht => ?cmpOvf, fun hc => ?cmpPoll, fun rise fall hc ht => ?ovfCapEarly, fun rise fall hc => ?ovfCap,
    fun rise fall rise' fall' hc => ?capCap⟩
  all_goals
    refine ⟨_, _, execAll_two_eq_after _ _ s, execAll_two_eq_after _ _ s, ?_⟩
    simp only [State.after_rng, State.after_params, rngAfter, hparams]
  case cmpOvf =>
    rw [rngCtCmp_of_no_trigger hc ht, rngCtOvf_of_trigger (r := { s.rng with trig := true }) hc rfl,
      rngCtOvf_of_no_trigger hc ht, rngCtCmp_of_no_trigger hc ht]
    exact ⟨rfl, hc, rfl⟩
  case cmpPoll =>
    have hlost : rngCtCmp s.rng = s.rng := rngCtCmp_otherwise (by simp [hc])
    have hpolled : (rngPoll c.params s.rng).cstate = .awaitingTrigger ∧ (rngPoll c.params s.rng).trig = false := by
      rw [rngPoll_of_ready hc]
      exact ⟨rfl, hlegal.trig_of_ready hc⟩
    obtain ⟨hcstate, hclear⟩ := hpolled
    rw [hlost, rngCtCmp_of_no_trigger hcstate hclear]
    exact ⟨rfl, hclear⟩
  case ovfCapEarly =>
    rw [rngCtOvf_of_trigger hc ht, rngCapDone_of_echo rise fall rfl, rngCapDone_of_not_echo rise fall (by simp [hc]),
      rngCtOvf_of_trigger hc ht]
    exact ⟨rfl, rfl, rfl, rfl, rfl, rfl⟩
  case ovfCap =>
    have hsucc := ovf_succ_toNat hbudget (hlegal.ovf_lt_of_echo hs hc)
    have hlate : rngCtOvf c.params (rngCapDone rise fall s.rng) = rngCapDone rise fall s.rng :=
      rngCtOvf_of_ready (by rw [rngCapDone_of_echo rise fall hc])
    rw [hlate, rngCapDone_of_echo rise fall hc]
    rcases lt_or_ge (s.rng.ovf.toNat + 1) c.params.distMaxOverflow with hlt | hend
    · have hcount := rngCtOvf_below_budget hc hlt
      rw [rngCapDone_of_echo rise fall (by rw [hcount, hc]), hcount]
      exact ⟨fun _ => ⟨rfl, hsucc⟩, fun hend => absurd hlt hend.not_gt, rfl, rfl, rfl, rfl⟩
    · have htimeout := rngCtOvf_at_budget hc hend
      rw [rngCapDone_of_not_echo rise fall (by simp [htimeout]), htimeout]
      exact ⟨fun hlt => absurd hlt hend.not_gt, fun _ => rfl, rfl, rfl, rfl, rfl⟩
  case capCap =>
    have hdiscarded (a b a' b' : Half) : rngCapDone a' b' (rngCapDone a b s.rng) = rngCapDone a b s.rng :=
      rngCapDone_of_not_echo a' b' (by simp [rngCapDone_of_echo a b hc])
    rw [hdiscarded, hdiscarded, rngCapDone_of_echo rise fall hc, rngCapDone_of_echo rise' fall' hc]
    exact ⟨rfl, rfl, rfl, rfl⟩

/-! ## Pairs with a BT_OVF -/

section
variable {p : Params} {a : ActState}

theorem actuationTick_regWriteAct_iff (r : RegIndex) (v : RegWord) :
    ActuationTick (regWriteAct r v a) ↔ ActuationTick a := by
  obtain ⟨_, _, _, hframe⟩ := regWriteAct_frame r v a
  rw [hframe]

theorem actuationTick_pwmBoundary_iff : ActuationTick (pwmBoundary a) ↔ ActuationTick a := by
  obtain ⟨_, _, _, _, _, hframe⟩ := pwmBoundary_frame a
  rw [hframe]

theorem applyPending_pwmBoundary (a : ActState) : (pwmBoundary a).applyPending = false := by
  rcases pwmBoundary_cases a with ⟨-, e⟩ | ⟨hsettled, e⟩ <;> rw [e]
  exact hsettled

/-- A boundary applies the shadow duties that are pending, and else keeps the active ones (42_actuation.md R123). -/
theorem activeOf_pwmBoundary_eq_ite (a : ActState) (ch : Channel) :
    activeOf (pwmBoundary a) ch = if a.applyPending = true then shadowOf a ch else activeOf a ch := by
  split
  case isTrue hpending => exact activeOf_pwmBoundary hpending ch
  case isFalse hsettled =>
    rcases pwmBoundary_cases a with ⟨hpending, -⟩ | ⟨-, e⟩
    · exact absurd hpending hsettled
    · rw [e]

end

section
variable {s : State}

theorem trace_after_poll (s : State) : (s.after .poll).trace = s.trace := List.append_nil _

theorem trace_after_btOvf_of_attempt (sto : StorageAnswer) (h : Attempts s.tlm) :
    (s.after (.btOvf sto)).trace = s.trace ++ [.tlm (formatLine s.rng.fdist.toNat) sto] :=
  congrArg (s.trace ++ ·) (telemetryRecords_attempt _ _ _ h)

theorem trace_after_btOvf_of_no_attempt (sto : StorageAnswer) (h : ¬ Attempts s.tlm) :
    (s.after (.btOvf sto)).trace = s.trace :=
  (congrArg (s.trace ++ ·) (telemetryRecords_no_attempt _ _ _ h)).trans (List.append_nil _)

/-- Of two BT_OVF the first attempts: TCYC restarts there, so the second is no telemetry tick. -/
theorem trace_of_first_attempt (x y : StorageAnswer) (h : Attempts s.tlm) :
    ((s.after (.btOvf x)).after (.btOvf y)).trace = s.trace ++ [.tlm (formatLine s.rng.fdist.toNat) x] := by
  have hrestart : (s.after (.btOvf x)).tlm = _ := telemetryState_tick x s.tlm h.1
  have hno : ¬ TelemetryTick (s.after (.btOvf x)).tlm := by
    rw [hrestart]
    exact (by decide : ¬ (0 : BitVec 5).toNat + 1 = tlmDiv)
  rw [trace_after_btOvf_of_no_attempt y (not_attempts_of_no_tick hno), trace_after_btOvf_of_attempt x h]

/-- Of two BT_OVF the second attempts: TCYC is one below the tick before the first, which leaves HEALTHY. -/
theorem trace_of_second_attempt (x y : StorageAnswer) (hhealthy : s.tlm.healthy = true)
    (htcyc : s.tlm.tcyc.toNat + 2 = tlmDiv) :
    ((s.after (.btOvf x)).after (.btOvf y)).trace = s.trace ++ [.tlm (formatLine s.rng.fdist.toNat) y] := by
  have hno : ¬ TelemetryTick s.tlm := fun htick => by omega
  have hattempt : Attempts (s.after (.btOvf x)).tlm := by
    have hcount : (s.after (.btOvf x)).tlm.tcyc.toNat = _ := telemetryState_tcyc x (t := s.tlm) (by omega)
    refine ⟨?_, (telemetryState_healthy_of_no_attempt x (not_attempts_of_no_tick hno)).trans hhealthy⟩
    rw [TelemetryTick, hcount, Nat.mod_eq_of_lt (by omega)]
    exact htcyc
  rw [trace_after_btOvf_of_attempt y hattempt, trace_after_btOvf_of_no_attempt x (not_attempts_of_no_tick hno)]
  rfl

end

theorem targetOf_regWriteAct_eq_extract (ch : Channel) (v : RegWord) (a : ActState) :
    targetOf (regWriteAct (targetIndex ch) v a) ch = v.extractLsb' 0 16 := by
  rw [targetOf_regWriteAct, BitVec.setWidth_eq_extractLsb' (by decide)]

/-- Settles O57: TCYC and ACYC decide which of the two BT_OVF ticks, and no other operation of the pairs writes them. -/
theorem tickPairsDependOnTheOrder : Obligations.TickPairsDependOnTheOrder := by
  intro s c hs
  have hparams := params_of_accepted hs
  refine ⟨fun sto _ htick hhealthy => ?poll, fun ch v sto hacyc => ?write, fun sto hacyc => ?boundary,
    fun x y hhealthy => ?btOvf⟩
  case poll =>
    have hattempt : Attempts s.tlm := ⟨htick, hhealthy⟩
    refine ⟨_, _, _, exec_eq_after .poll s, execAll_two_eq_after .poll (.btOvf sto) s,
      execAll_two_eq_after (.btOvf sto) .poll s, ?_, ?_⟩
    · rw [trace_after_btOvf_of_attempt (s := s.after .poll) sto hattempt, trace_after_poll]
    · rw [trace_after_poll, trace_after_btOvf_of_attempt sto hattempt]
  all_goals refine ⟨_, _, execAll_two_eq_after _ _ s, execAll_two_eq_after _ _ s, ?_⟩
  case write =>
    have htick := actuationTick_of_acyc hacyc
    have hstill := (actuationTick_regWriteAct_iff (targetIndex ch) v).mpr htick
    obtain ⟨hduties, -⟩ := regWriteAct_duties (targetIndex ch) v (actuationPart c.params s.act)
    simp only [State.after_act, State.after_params, actAfter, hparams]
    rw [shadowOf_actuationPart_tick hstill, targetOf_regWriteAct_eq_extract, (hduties ch).1,
      shadowOf_actuationPart_tick htick]
    exact ⟨rfl, rfl⟩
  case boundary =>
    have htick := actuationTick_of_acyc hacyc
    have hstill := actuationTick_pwmBoundary_iff.mpr htick
    have hpending : (actuationPart c.params s.act).applyPending = true := applyPending_actuationPart_tick htick
    simp only [State.after_act, State.after_params, actAfter, hparams]
    refine ⟨applyPending_pwmBoundary _, applyPending_actuationPart_tick hstill, fun ch => ⟨?_, ?_⟩⟩
    · rw [activeOf_pwmBoundary hpending, shadowOf_actuationPart_tick htick]
    · rw [activeOf_actuationPart, activeOf_pwmBoundary_eq_ite]
  case btOvf =>
    exact ⟨fun htick => ⟨trace_of_first_attempt x y ⟨htick, hhealthy⟩, trace_of_first_attempt y x ⟨htick, hhealthy⟩⟩,
      fun htcyc => ⟨trace_of_second_attempt x y hhealthy htcyc, trace_of_second_attempt y x hhealthy htcyc⟩⟩

/-! ## Pairs with the host and with RESET -/

/-- RESET makes of every state with the same configuration and presented words the same units, and keeps the trace
(70_reset_and_hazards.md R210). -/
theorem after_reset_after (s : State) (j : Instr) :
    (s.after j).after .reset = { s.after .reset with trace := (s.after j).trace } :=
  State.ext_units _ _ rfl rfl rfl rfl rfl rfl (List.append_nil _)

/-- CT_CMP, the buttons and BT_OVF leave their mark on the reset state: TRIG, MODE, ARMED or ACYC. -/
theorem after_reset_ne_of_marking {j : Instr} (hj : j = .ctCmp ∨ j = .btnA ∨ j = .btnB ∨ ∃ sto, j = .btOvf sto)
    (s : State) (tr : List OutRecord) : (s.after .reset).after j ≠ { s.after .reset with trace := tr } := by
  intro heq
  rcases hj with rfl | rfl | rfl | ⟨sto, rfl⟩
  · have htrig : true = false := congrArg (fun w : State => w.rng.trig) heq
    exact absurd htrig (by decide)
  · have hmode : OperatingMode.basic = .none := congrArg (fun w : State => w.mode.mode) heq
    exact absurd hmode (by decide)
  · have harmed : true = false := congrArg (fun w : State => w.mode.armed) heq
    exact absurd harmed (by decide)
  · have hacyc : (1 : BitVec 1) = 0 := congrArg (fun w : State => w.act.acyc) heq
    exact absurd hacyc (by decide)

/-- Settles O58: a record is computed from the units, which a read before it leaves as they are. -/
theorem hostAndResetPairsDependOnTheOrder : Obligations.HostAndResetPairsDependOnTheOrder := by
  intro s
  refine ⟨fun r j t ht => ?read, fun ch v v' => ?write, fun j t ht => ?reset⟩
  case read =>
    obtain rfl := Host.Outcome.next.inj ((exec_eq_after j s).symm.trans ht)
    have hrecords : recordsOf j (s.after (.regRd r)) = recordsOf j s := recordsOf_congr rfl rfl rfl rfl j
    refine ⟨_, recordsOf j s, rfl, execAll_two_eq_after (.regRd r) j s, ?_, execAll_two_eq_after j (.regRd r) s⟩
    rw [State.after_trace, hrecords, State.after_trace, List.append_assoc]
    rfl
  case write =>
    exact ⟨_, _, execAll_two_eq_after _ _ s, execAll_two_eq_after _ _ s, targetOf_regWriteAct_eq_extract ch v' _,
      targetOf_regWriteAct_eq_extract ch v _⟩
  case reset =>
    obtain rfl := Host.Outcome.next.inj ((exec_eq_after j s).symm.trans ht)
    exact ⟨_, _, exec_eq_after .reset s, exec_eq_after j _, execAll_two_eq_after .reset j s,
      after_reset_after s j ▸ execAll_two_eq_after j .reset s, fun hj => after_reset_ne_of_marking hj s _⟩

end Sys2Proof.Machine
end

section
/-! PROOF. The statements of 60_exceptions.md about the error conditions E1 to E5 (R186, R193): one lemma says all that an
operation can detect, and each condition is then matched with the effect that shows it. -/

namespace Sys2Proof.Machine

/-! ## The error conditions (R186) -/

section
variable {i : Instr} {s : State}

theorem mem_clampErrors_iff {p : Params} {a : ActState} {ch : Channel} {e : ErrorCondition} :
    e ∈ clampErrors p a ch ↔
      e = .targetOutOfRange ch ∧ clampTarget (calibration p ch) (targetOf a ch).toInt ≠ (targetOf a ch).toInt := by
  unfold clampErrors
  split <;> simp [*]

/-- All that an operation can detect: E1 at the overflow that uses up the budget, E5 at an actuation tick, and the failure
that an attempt is answered. -/
theorem mem_detectedErrors_iff {e : ErrorCondition} :
    e ∈ detectedErrors i s ↔
      (i = .ctOvf ∧ e = .sensorTimeout ∧ s.rng.cstate = .awaitingEcho ∧
        s.params.distMaxOverflow ≤ s.rng.ovf.toNat + 1) ∨
      (∃ sto, i = .btOvf sto ∧ ActuationTick s.act ∧ ∃ ch, e ∈ clampErrors s.params s.act ch) ∨
      (∃ sto, i = .btOvf sto ∧ Attempts s.tlm ∧ e ∈ storageErrors sto) := by
  cases i
  case ctOvf =>
    simp only [detectedErrors]
    split <;> simp_all
  case btOvf sto =>
    have hchannels : (∃ ch, e ∈ clampErrors s.params s.act ch) ↔
        e ∈ clampErrors s.params s.act .steering ++ clampErrors s.params s.act .driveSpeed ++
          clampErrors s.params s.act .cameraPan := by
      simp only [List.mem_append]
      constructor
      · rintro ⟨ch, he⟩
        cases ch <;> simp [he]
      · rintro ((he | he) | he) <;> exact ⟨_, he⟩
    simp only [detectedErrors, List.mem_append, List.mem_ite_nil_right, hchannels]
    simp
  all_goals simp [detectedErrors]

theorem sensorTimeout_mem_iff :
    .sensorTimeout ∈ detectedErrors i s ↔
      i = .ctOvf ∧ s.rng.cstate = .awaitingEcho ∧ s.params.distMaxOverflow ≤ s.rng.ovf.toNat + 1 := by
  have hstorage (sto : StorageAnswer) : .sensorTimeout ∉ storageErrors sto := by cases sto <;> simp [storageErrors]
  simp [mem_detectedErrors_iff, mem_clampErrors_iff, hstorage]

/-- The condition of a storage failure is detected exactly where an attempt is answered that failure. -/
theorem storageError_mem_iff {e : ErrorCondition} {sto : StorageAnswer} (he : storageErrors sto = [e]) :
    e ∈ detectedErrors i s ↔ i = .btOvf sto ∧ Attempts s.tlm := by
  have hclamp (ch : Channel) : e ≠ .targetOutOfRange ch := by cases sto <;> cases he <;> simp
  have hsensor : e ≠ .sensorTimeout := by cases sto <;> cases he <;> simp
  have hanswer (x : StorageAnswer) : e ∈ storageErrors x ↔ x = sto := by
    cases sto <;> cases he <;> cases x <;> simp [storageErrors]
  simp [mem_detectedErrors_iff, mem_clampErrors_iff, hclamp, hsensor, hanswer]

/-- R193: a storage answer names one failing stage at most, and no clamp is counted. -/
theorem detectedErrors_not_clamp_length_le (i : Instr) (s : State) :
    ((detectedErrors i s).filter (fun e => !e.isClamp)).length ≤ 1 := by
  cases i
  case ctOvf =>
    refine (List.length_filter_le _ _).trans ?_
    simp only [detectedErrors]
    split <;> simp
  case btOvf sto =>
    have hclamp (ch : Channel) : (clampErrors s.params s.act ch).filter (fun e => !e.isClamp) = [] := by
      refine List.filter_eq_nil_iff.mpr fun e he => ?_
      obtain ⟨rfl, -⟩ := mem_clampErrors_iff.mp he
      simp [ErrorCondition.isClamp]
    have hstorage : (storageErrors sto).length ≤ 1 := by cases sto <;> simp [storageErrors]
    have hactuation : (if ActuationTick s.act then
        clampErrors s.params s.act .steering ++ clampErrors s.params s.act .driveSpeed ++
          clampErrors s.params s.act .cameraPan else []).filter (fun e => !e.isClamp) = [] := by
      split <;> simp [List.filter_append, hclamp]
    rw [detectedErrors, List.filter_append, hactuation, List.nil_append]
    refine (List.length_filter_le _ _).trans ?_
    split
    · exact hstorage
    · simp
  all_goals simp [detectedErrors]

end

/-! ## What shows each condition -/

section
variable {i : Instr} {s : State}

/-- The echo wait ends with TIMEOUT set exactly at the overflow that uses up the budget (40_ranging.md R82, R84). -/
theorem timeout_shown_iff :
    (s.rng.cstate = .awaitingEcho ∧ (s.after i).rng.cstate = .readyToProcess ∧ (s.after i).rng.timeout = true) ↔
      i = .ctOvf ∧ s.rng.cstate = .awaitingEcho ∧ s.params.distMaxOverflow ≤ s.rng.ovf.toNat + 1 := by
  constructor
  · rintro ⟨hc, hready, htimeout⟩
    rcases exec_rng_cases (exec_eq_after i s) with e | ⟨-, e⟩ | ⟨hi, e⟩ | ⟨rise, fall, -, e⟩ | ⟨-, e⟩ | ⟨-, e⟩ <;>
      rw [e] at hready htimeout
    · simp [hc] at hready
    · simp [rngCtCmp_cstate, hc] at hready
    · refine ⟨hi, hc, le_of_not_gt fun hlt => ?_⟩
      simp [rngCtOvf_below_budget hc hlt, hc] at hready
    · simp [rngCapDone_of_echo rise fall hc] at htimeout
    · simp [rngPoll_of_not_ready (p := s.params) (r := s.rng) (by simp [hc]), hc] at hready
    · simp [rngReset] at hready
  · rintro ⟨rfl, hc, hend⟩
    have hrng : (s.after .ctOvf).rng = _ := rngCtOvf_at_budget hc hend
    rw [hrng]
    exact ⟨hc, rfl, rfl⟩

/-- A telemetry record with an answer is appended exactly by the attempt that is answered so (44_telemetry.md R155). -/
theorem record_shown_iff {sto : StorageAnswer} :
    (∃ line, (s.after i).trace = s.trace ++ [.tlm line sto]) ↔ i = .btOvf sto ∧ Attempts s.tlm := by
  constructor
  · rintro ⟨line, hline⟩
    rcases exec_trace_cases (exec_eq_after i s) with e | ⟨r, -, e⟩ | ⟨x, hi, hattempt, e⟩ <;> rw [e] at hline
    · simp at hline
    · simp at hline
    · simp only [List.append_cancel_left_eq, List.cons.injEq, OutRecord.tlm.injEq, and_true] at hline
      exact ⟨hline.2 ▸ hi, hattempt⟩
  · rintro ⟨rfl, hattempt⟩
    exact ⟨_, trace_after_btOvf_of_attempt sto hattempt⟩

/-- HEALTHY is cleared exactly by an attempt that is answered a failure (R155, R157). -/
theorem healthy_cleared_iff :
    (s.tlm.healthy = true ∧ (s.after i).tlm.healthy = false) ↔
      ∃ sto, i = .btOvf sto ∧ Attempts s.tlm ∧ sto ≠ .ok := by
  constructor
  · rintro ⟨hset, hclear⟩
    rcases exec_tlm_cases (exec_eq_after i s) with e | ⟨sto, hi, e⟩ | ⟨-, e⟩ <;> rw [e] at hclear
    · simp [hset] at hclear
    · have hattempt : Attempts s.tlm := by
        by_contra hnone
        simp [telemetryState_healthy_of_no_attempt sto hnone, hset] at hclear
      refine ⟨sto, hi, hattempt, fun hok => ?_⟩
      simp [(telemetryState_healthy_of_attempt sto hattempt).mpr hok] at hclear
    · simp [tlmReset] at hclear
  · rintro ⟨sto, rfl, hattempt, hfail⟩
    exact ⟨hattempt.2, Bool.eq_false_of_not_eq_true fun hset =>
      hfail ((telemetryState_healthy_of_attempt sto hattempt).mp hset)⟩

end

/-- The clamp changes a target exactly where it is out of range (42_actuation.md R117). -/
theorem clampTarget_ne_iff (c : Calibration) (t : Int) :
    clampTarget c t ≠ t ↔ t < -(c.clampMagnitude : Int) ∨ (c.clampMagnitude : Int) < t := by
  rw [clampTarget_eq_max_min]
  omega

/-- Out of range a target is mapped to an edge of the band (42_actuation.md R117, R121). -/
theorem mappedDuty_of_out_of_range {p : Params} (hv : p.Valid) (ch : Channel) {tgt : Half}
    (h : clampTarget (calibration p ch) tgt.toInt ≠ tgt.toInt) :
    (mappedDuty (calibration p ch) tgt).toNat = (calibration p ch).minDuty ∨
      (mappedDuty (calibration p ch) tgt).toNat = (calibration p ch).minDuty + 2 * (calibration p ch).spanDuty := by
  have hmag := calibration_clampMagnitude_pos p ch
  have hstored := mappedDuty_toNat hv ch tgt
  rcases (clampTarget_ne_iff _ _).mp h with hlow | hhigh
  · rw [clampTarget_of_lt _ _ hlow, duty_neg_magnitude hmag] at hstored
    exact .inl (by exact_mod_cast hstored)
  · rw [clampTarget_of_gt _ _ hhigh, duty_magnitude hmag] at hstored
    exact .inr (by exact_mod_cast hstored)

theorem actuationTick_iff (a : ActState) : ActuationTick a ↔ a.acyc = 1 := by
  refine ⟨fun htick => ?_, actuationTick_of_acyc⟩
  rcases acyc_cases a with ⟨-, hacyc⟩ | ⟨hno, -⟩
  · exact hacyc
  · exact absurd htick hno

theorem targetOutOfRange_mem_iff {i : Instr} {s : State} {ch : Channel} :
    .targetOutOfRange ch ∈ detectedErrors i s ↔
      (∃ sto, i = .btOvf sto) ∧ ActuationTick s.act ∧
        clampTarget (calibration s.params ch) (targetOf s.act ch).toInt ≠ (targetOf s.act ch).toInt := by
  have hstorage (sto : StorageAnswer) : .targetOutOfRange ch ∉ storageErrors sto := by
    cases sto <;> simp [storageErrors]
  simp [mem_detectedErrors_iff, mem_clampErrors_iff, hstorage]

/-! ## The obligations -/

/-- Settles O53: what an operation detects and what its effect shows are the same condition on the operation and the state. -/
theorem atMostOneErrorCondition : Obligations.AtMostOneErrorCondition := by
  intro i s c hs
  have hparams := params_of_accepted hs
  refine ⟨s.after i, exec_eq_after i s, detectedErrors_not_clamp_length_le i s, ?timeout, ?openFail, ?writeFail,
    ?closeFail, ?healthy, fun ch => ⟨?range, ?edge⟩⟩
  case timeout => rw [sensorTimeout_mem_iff, timeout_shown_iff]
  case openFail => rw [storageError_mem_iff (sto := .openFail) rfl, record_shown_iff]
  case writeFail => rw [storageError_mem_iff (sto := .writeFail) rfl, record_shown_iff]
  case closeFail => rw [storageError_mem_iff (sto := .closeFail) rfl, record_shown_iff]
  case healthy =>
    rw [storageError_mem_iff (sto := .openFail) rfl, storageError_mem_iff (sto := .writeFail) rfl,
      storageError_mem_iff (sto := .closeFail) rfl, healthy_cleared_iff]
    constructor
    · rintro (⟨hi, hattempt⟩ | ⟨hi, hattempt⟩ | ⟨hi, hattempt⟩) <;> exact ⟨_, hi, hattempt, by simp⟩
    · rintro ⟨sto, hi, hattempt, hfail⟩
      cases sto
      case ok => exact absurd rfl hfail
      case openFail => exact .inl ⟨hi, hattempt⟩
      case writeFail => exact .inr (.inl ⟨hi, hattempt⟩)
      case closeFail => exact .inr (.inr ⟨hi, hattempt⟩)
  case range => rw [targetOutOfRange_mem_iff, hparams, actuationTick_iff, clampTarget_ne_iff]
  case edge =>
    intro hmem
    obtain ⟨⟨sto, rfl⟩, htick, hrange⟩ := targetOutOfRange_mem_iff.mp hmem
    have hshadow : shadowOf (s.after (.btOvf sto)).act ch = mappedDuty (calibration s.params ch) (targetOf s.act ch) :=
      shadowOf_actuationPart_tick htick ch
    rw [hshadow, hparams]
    exact mappedDuty_of_out_of_range c.valid ch (hparams ▸ hrange)

/-- An attempt that is answered a failure detects it, clears HEALTHY and appends its record. -/
theorem failed_attempt_recorded {s : State} {e : ErrorCondition} {sto : StorageAnswer} (he : storageErrors sto = [e])
    (hattempt : Attempts s.tlm) {i : Instr} (hi : i = .btOvf sto) :
    e ∈ detectedErrors i s ∧ (s.after i).tlm.healthy = false ∧
      (s.after i).trace = s.trace ++ [.tlm (formatLine s.rng.fdist.toNat) sto] := by
  have hfail : sto ≠ .ok := by
    rintro rfl
    cases he
  refine ⟨(storageError_mem_iff he).mpr ⟨hi, hattempt⟩, (healthy_cleared_iff.mpr ⟨sto, hi, hattempt, hfail⟩).2, ?_⟩
  subst hi
  exact trace_after_btOvf_of_attempt sto hattempt

/-- Settles O54: E1 leaves READY with TIMEOUT set, from which POLL samples DIST_MAX; of the rest only an attempt and a REG_RD
write the trace. -/
theorem errorConditionsAreRecorded : Obligations.ErrorConditionsAreRecorded := by
  intro i s c hs
  obtain ⟨hdist, -⟩ := c.valid
  refine ⟨s.after i, exec_eq_after i s, fun hmem => ?timeout, fun htick hhealthy => ?storage, fun _ hnone hread => ?silent⟩
  case timeout =>
    obtain ⟨-, hready, htimeout⟩ := timeout_shown_iff.mpr (sensorTimeout_mem_iff.mp hmem)
    refine ⟨htimeout, _, exec_poll (s.after i), ?_⟩
    rw [State.setRng_rng, rngPoll_of_ready hready, params_of_accepted (s := s.after i) hs]
    exact sample_toNat_of_timeout hdist htimeout
  case storage =>
    have hattempt : Attempts s.tlm := ⟨htick, hhealthy⟩
    exact ⟨failed_attempt_recorded rfl hattempt, failed_attempt_recorded rfl hattempt,
      failed_attempt_recorded rfl hattempt⟩
  case silent =>
    rcases exec_trace_cases (exec_eq_after i s) with e | ⟨r, hi, -⟩ | ⟨sto, hi, hattempt, -⟩
    · exact e
    · exact absurd hi (hread r)
    · exact absurd hattempt (hnone sto hi)

end Sys2Proof.Machine
end

section
/-! PROOF. The statements of 70_reset_and_hazards.md: an even number of presses of button B, RESET and the power-on state, the
configuration along every step, and the operations that RESET absorbs though R192 lists them with it (log 9). -/

namespace Sys2Proof.Machine

/-! ## Pairs of presses of button B (R220) -/

/-- Of two presses of button B one disarms, which forces MODE to NONE, and the other arms, which keeps MODE (R136). -/
theorem buttonB_buttonB (m : ModeState) :
    buttonB (buttonB m) = { mode := .none, armed := m.armed, led := if m.armed then armedPattern else 0 } := by
  rcases buttonB_cases m with ⟨harmed, e⟩ | ⟨hunarmed, e⟩
  · rw [e, harmed]
    rfl
  · rw [e, hunarmed]
    rfl

theorem execAll_btnB_pair (s : State) :
    execAll [.btnB, .btnB] s = .next (s.setMode (buttonB (buttonB s.mode))) :=
  execAll_pair (exec_btnB s) (exec_btnB _)

/-- A further pair of presses does nothing more: what two presses make of MODE depends on ARMED alone, which they keep. -/
theorem execAll_btnB_even (k : Nat) (s : State) :
    execAll (List.replicate (2 * (k + 1)) .btnB) s = .next (s.setMode (buttonB (buttonB s.mode))) := by
  induction k generalizing s with
  | zero => exact execAll_btnB_pair s
  | succ k ih =>
    have hpairs : List.replicate (2 * (k + 1 + 1)) Instr.btnB = [.btnB, .btnB] ++ List.replicate (2 * (k + 1)) .btnB := rfl
    have hsettled : buttonB (buttonB (buttonB (buttonB s.mode))) = buttonB (buttonB s.mode) := by
      simp only [buttonB_buttonB]
    rw [hpairs, execAll_append_of_next _ _ s _ (execAll_btnB_pair s), ih, State.setMode_mode, hsettled]
    rfl

/-- Settles O36. -/
theorem evenBouncesOfButtonBForceNone : Obligations.EvenBouncesOfButtonBForceNone := by
  intro s k
  refine ⟨_, execAll_btnB_even k s, ?_⟩
  rw [buttonB_buttonB]
  exact ⟨rfl, rfl, rfl, rfl, rfl, rfl⟩

/-! ## RESET and the power-on state (R210, R211) -/

theorem exec_reset (s : State) : exec .reset s = .next s.resetElements := rfl

/-- The centre of a band that fits 16 bits is stored as it is (R8). -/
theorem centreDuty_toNat {b : Band} (hfits : b.Fits) : (centreDuty b).toNat = b.base + b.span := by
  rw [centreDuty, BitVec.toNat_ofNat]
  omega

/-- RESET is power-on under the same configuration, the trace and the words still to be presented kept. -/
theorem resetElements_eq_resetWith (s : State) :
    s.resetElements = { State.resetWith s.setup with trace := s.trace, ops := s.ops } := rfl

/-- Settles O11: the duties keep their values, since a valid configuration's centres and tilt duty fit 16 bits. -/
theorem resetRestoresEveryElement : Obligations.ResetRestoresEveryElement := by
  intro s c hs
  have hact : s.resetElements.act = actReset c.params := by rw [State.resetElements_act, params_of_accepted hs]
  have htilt := (ActInv.reset c.valid).shd3_tilt
  obtain ⟨-, -, -, -, -, -, hsteer, hspeed, hpan⟩ := c.valid
  refine ⟨s.resetElements, exec_reset s, rfl, ?_⟩
  rw [hact]
  exact ⟨rfl, rfl, rfl, rfl, centreDuty_toNat hsteer, rfl, centreDuty_toNat hspeed, rfl, centreDuty_toNat hpan, rfl,
    htilt, rfl, rfl, rfl, rfl, rfl, rfl, rfl⟩

/-- Settles O12. -/
theorem powerOnIsTheResetState : Obligations.PowerOnIsTheResetState := by
  refine fun setup => ⟨State.resetWith_trace setup, exec_reset _, ?_⟩
  rintro s rfl
  rw [exec_reset, resetElements_eq_resetWith]

/-! ## The configuration (R213) -/

/-- Settles O48. -/
theorem configurationNeverChanges : Obligations.ConfigurationNeverChanges := by
  intro s t h
  rcases step_next_cases h with rfl | ⟨c, w, rest, i, -, -, -, hexec⟩
  · rfl
  · obtain ⟨u, hu, hsetup, -⟩ := exec_next_frame i (s.setOps rest)
    obtain rfl := Host.Outcome.next.inj (hu.symm.trans hexec)
    exact hsetup

/-! ## Operations that RESET absorbs (log 9) -/

/-- CT_OVF, CAP_DONE, POLL and PWM_BND find nothing to do in the reset state: no trigger to end, no echo awaited, no capture
ready and no apply pending (R82, R84, R87, R123). In any state they emit nothing. -/
theorem after_reset_absorbs {j : Instr}
    (hj : j = .ctOvf ∨ (∃ rise fall, j = .capDone rise fall) ∨ j = .poll ∨ j = .pwmBnd) (s : State) :
    (s.after .reset).after j = s.after .reset ∧ recordsOf j s = [] := by
  have hkept (rs : List OutRecord) : rs ++ [] = rs := List.append_nil rs
  rcases hj with rfl | ⟨rise, fall, rfl⟩ | rfl | rfl
  · have hrng : rngCtOvf s.params rngReset = rngReset := rngCtOvf_of_no_trigger rfl rfl
    exact ⟨State.ext_units _ _ rfl rfl hrng rfl rfl rfl (hkept _), rfl⟩
  · have hrng : rngCapDone rise fall rngReset = rngReset := rngCapDone_of_not_echo rise fall nofun
    exact ⟨State.ext_units _ _ rfl rfl hrng rfl rfl rfl (hkept _), rfl⟩
  · have hrng : rngPoll s.params rngReset = rngReset := rngPoll_of_not_ready nofun
    exact ⟨State.ext_units _ _ rfl rfl hrng rfl rfl rfl (hkept _), rfl⟩
  · have hact : pwmBoundary (actReset s.params) = actReset s.params := rfl
    exact ⟨State.ext_units _ _ rfl rfl rfl hact rfl rfl (hkept _), rfl⟩

/-- Settles O60: RESET makes the same units of the state after the operation, whose trace is still that of the state before
it. -/
theorem resetAbsorbsSomeListedOperations : Obligations.ResetAbsorbsSomeListedOperations := by
  intro s j hj
  obtain ⟨hafter, hsilent⟩ := after_reset_absorbs hj s
  have htrace : (s.after j).trace = (s.after .reset).trace := by rw [State.after_trace, hsilent]; rfl
  have hbefore : (s.after j).after .reset = s.after .reset := by rw [after_reset_after, htrace]
  exact ⟨_, exec_eq_after .reset s, hafter ▸ execAll_two_eq_after .reset j s,
    hbefore ▸ execAll_two_eq_after j .reset s⟩

end Sys2Proof.Machine
end
